-- ==== Sys2Proof/Word.lean ====
section
/-!
DEFINITION. The word types of the block: host registers and command words of 32 bits, bytes, and the 16-bit Q2.14 duties
(00_scope.md R9, R10).
-/

namespace Sys2Proof

/-- A host register, a command word or a 32-bit counter (R9, R66). -/
abbrev Word := BitVec 32

/-- A raw brightness, an LUT entry or a byte of a bus payload (R7, R70). -/
abbrev Byte := BitVec 8

/-- A duty, a speed or an intensity field of 16 bits in Q2.14, where 1.0 is 0x4000 (R9, D5). -/
abbrev Duty := BitVec 16

/-- A set of LED channels, bit c for channel c (R69). -/
abbrev ChannelMask := BitVec 18

end Sys2Proof
end

