-- ==== Sys2Proof/Syntax.lean ====
section
/-!
DEFINITION. The commands of SBCB-CMD version 1 (30_encoding.md R68 to R75), one constructor for each row of
spec/opcode_table.json. Every operand field has exactly the width of its field in the command word.
-/

namespace Sys2Proof

/-- The button that BTN selects (R73). -/
inductive Button where
  | a | b | x | y
deriving DecidableEq, Repr

/-- The motor that M selects (R71). -/
inductive Motor where
  | left | right
deriving DecidableEq, Repr

/-- A command with its operands. -/
inductive Instr where
  /-- LED_RESET, format F0 (R92). -/
  | ledReset
  /-- LED_ENABLE, format F0 (R93). -/
  | ledEnable
  /-- LED_DISABLE, format F0 (R94). -/
  | ledDisable
  /-- LED_SET_MASK, format FM: the 18-bit channel set (R69, R95). -/
  | ledSetMask (mask : ChannelMask)
  /-- LED_OUTPUT, format F0 (R96). -/
  | ledOutput
  /-- BTN_LIGHT, format FI: the button and the unsigned intensity field (R73, R74, R104). -/
  | btnLight (btn : Button) (intensity : Duty)
  /-- BTN_LIGHTS_CLEAR, format F0 (R105). -/
  | btnLightsClear
  /-- MOTOR_SET, format FS: the motor and the signed speed field (R71, R72, R110). -/
  | motorSet (motor : Motor) (speed : Duty)
  /-- MOTOR_FORWARD, format F0 (R111). -/
  | motorForward
  /-- MOTOR_BACKWARD, format F0 (R112). -/
  | motorBackward
  /-- MOTOR_STOP, format F0 (R113). -/
  | motorStop
  /-- RANGE, format F0 (R118). -/
  | range
  /-- UL_SET, format FC: red, green and blue (R70, R129). -/
  | ulSet (r g b : Byte)
  /-- UL_CLEAR, format F0 (R130). -/
  | ulClear
  /-- UL_SHOW, format F0 (R131). -/
  | ulShow
deriving DecidableEq, Repr

end Sys2Proof
end

