-- ==== Sys2Proof/WellFormed.lean ====
section
/-!
DEFINITION. When a command's operands are legal (30_encoding.md R72, R74). Every field of `Instr` has the width of its
encoding, so EVERY term of `Instr` has a command word; a term with an operand out of range is still a legal command, decodes,
and completes with OPERAND (R79). The statements about decoding and about the step therefore hold for every term.
-/

namespace Sys2Proof

/-- MOTOR_SET's speed field is in [-1.0, 1.0]: by the corner cases of R110, the words 0x4001 to 0xBFFF are not. -/
def speedFieldLegal (v : Duty) : Bool :=
  v.toNat ≤ 0x4000 || 0xC000 ≤ v.toNat

/-- BTN_LIGHT's intensity field is in [0.0, 1.0]: 0x0000 to 0x4000 (R74). -/
def intensityFieldLegal (v : Duty) : Bool :=
  v.toNat ≤ 0x4000

/-- The operands of the command are in the range the spec calls legal (R69 to R74). -/
def Instr.wellFormed : Instr → Bool
  | .ledReset => true
  | .ledEnable => true
  | .ledDisable => true
  | .ledSetMask _ => true
  | .ledOutput => true
  | .btnLight _ intensity => intensityFieldLegal intensity
  | .btnLightsClear => true
  | .motorSet _ speed => speedFieldLegal speed
  | .motorForward => true
  | .motorBackward => true
  | .motorStop => true
  | .range => true
  | .ulSet _ _ _ => true
  | .ulClear => true
  | .ulShow => true

end Sys2Proof
end

