-- ==== Sys2Proof/Decode.lean ====
section
/-!
DEFINITION. Decoding and encoding of command words (30_encoding.md). `decode` is the opcode map of R75 read as R76 says, and
total on all words; `encode` lays out the fields of R68.
-/

namespace Sys2Proof

/-! ### Operand fields (R69 to R74) -/

/-- BTN = w[17:16] (R73). -/
def buttonOfBits (v : BitVec 2) : Button :=
  if v = 0 then .a else if v = 1 then .b else if v = 2 then .x else .y

/-- The BTN field of a button (R73). -/
def Button.bits : Button → BitVec 2
  | .a => 0
  | .b => 1
  | .x => 2
  | .y => 3

/-- M = w[16] (R71). -/
def motorOfBits (v : BitVec 1) : Motor :=
  if v = 0 then .left else .right

/-- The M field of a motor (R71). -/
def Motor.bits : Motor → BitVec 1
  | .left => 0
  | .right => 1

/-! ### The opcode map (R75) -/

/-- One row of the opcode map: the word w is this command when `w & mask = value`, and `build` reads its operands. -/
structure OpcodeRow where
  mnemonic : String
  mask : Word
  value : Word
  build : Word → Instr

/-- The mask of a format F0 row: no operand, so every bit is fixed (R68). -/
def maskF0 : Word := 0xFFFFFFFF

/-- R75, row for row. -/
def opcodeTable : List OpcodeRow :=
  [ ⟨"LED_RESET", maskF0, 0x10000000, fun _ => .ledReset⟩,
    ⟨"LED_ENABLE", maskF0, 0x11000000, fun _ => .ledEnable⟩,
    ⟨"LED_DISABLE", maskF0, 0x12000000, fun _ => .ledDisable⟩,
    ⟨"LED_SET_MASK", 0xFFFC0000, 0x13000000, fun w => .ledSetMask (w.extractLsb' 0 18)⟩,
    ⟨"LED_OUTPUT", maskF0, 0x14000000, fun _ => .ledOutput⟩,
    ⟨"BTN_LIGHT", 0xFFFC0000, 0x20000000,
      fun w => .btnLight (buttonOfBits (w.extractLsb' 16 2)) (w.extractLsb' 0 16)⟩,
    ⟨"BTN_LIGHTS_CLEAR", maskF0, 0x21000000, fun _ => .btnLightsClear⟩,
    ⟨"MOTOR_SET", 0xFFFE0000, 0x30000000,
      fun w => .motorSet (motorOfBits (w.extractLsb' 16 1)) (w.extractLsb' 0 16)⟩,
    ⟨"MOTOR_FORWARD", maskF0, 0x31000000, fun _ => .motorForward⟩,
    ⟨"MOTOR_BACKWARD", maskF0, 0x32000000, fun _ => .motorBackward⟩,
    ⟨"MOTOR_STOP", maskF0, 0x33000000, fun _ => .motorStop⟩,
    ⟨"RANGE", maskF0, 0x40000000, fun _ => .range⟩,
    ⟨"UL_SET", 0xFF000000, 0x50000000,
      fun w => .ulSet (w.extractLsb' 16 8) (w.extractLsb' 8 8) (w.extractLsb' 0 8)⟩,
    ⟨"UL_CLEAR", maskF0, 0x51000000, fun _ => .ulClear⟩,
    ⟨"UL_SHOW", maskF0, 0x52000000, fun _ => .ulShow⟩ ]

/-- The row takes the word. -/
def OpcodeRow.takes (r : OpcodeRow) (w : Word) : Bool := w &&& r.mask == r.value

/-- R76: the command of the row that takes w; `none` is ILLEGAL (R77). -/
def decode (w : Word) : Option Instr :=
  (opcodeTable.find? (fun r => r.takes w)).map (fun r => r.build w)

/-- The word of the opcode-table row, numbered as the table numbers its bits, through the decoder. Every command is one
32-bit word (R66); bits from `nbits` on are 0. -/
def decodeTableWord (nbits w : Nat) : Option Instr :=
  decode (BitVec.ofNat 32 (w % 2 ^ nbits))

/-! ### Encoding (R68) -/

/-- Format F0: the opcode and 24 reserved bits. -/
def wordF0 (op : Byte) : Word := op ++ 0#24

/-- Format FM: the opcode, 6 reserved bits, MASK. -/
def wordFM (op : Byte) (mask : ChannelMask) : Word := op ++ 0#6 ++ mask

/-- Format FC: the opcode, R, G, B. -/
def wordFC (op r g b : Byte) : Word := op ++ r ++ g ++ b

/-- Format FS: the opcode, 7 reserved bits, M, S. -/
def wordFS (op : Byte) (m : BitVec 1) (speed : Duty) : Word := op ++ 0#7 ++ m ++ speed

/-- Format FI: the opcode, 6 reserved bits, BTN, I. -/
def wordFI (op : Byte) (btn : BitVec 2) (intensity : Duty) : Word := op ++ 0#6 ++ btn ++ intensity

/-- The opcode OP, bits 31:24 (R67, R75). -/
def Instr.opcode : Instr → Byte
  | .ledReset => 0x10
  | .ledEnable => 0x11
  | .ledDisable => 0x12
  | .ledSetMask _ => 0x13
  | .ledOutput => 0x14
  | .btnLight _ _ => 0x20
  | .btnLightsClear => 0x21
  | .motorSet _ _ => 0x30
  | .motorForward => 0x31
  | .motorBackward => 0x32
  | .motorStop => 0x33
  | .range => 0x40
  | .ulSet _ _ _ => 0x50
  | .ulClear => 0x51
  | .ulShow => 0x52

/-- The command word of a command. -/
def encode (i : Instr) : Word :=
  match i with
  | .ledReset => wordF0 i.opcode
  | .ledEnable => wordF0 i.opcode
  | .ledDisable => wordF0 i.opcode
  | .ledSetMask mask => wordFM i.opcode mask
  | .ledOutput => wordF0 i.opcode
  | .btnLight btn intensity => wordFI i.opcode btn.bits intensity
  | .btnLightsClear => wordF0 i.opcode
  | .motorSet motor speed => wordFS i.opcode motor.bits speed
  | .motorForward => wordF0 i.opcode
  | .motorBackward => wordF0 i.opcode
  | .motorStop => wordF0 i.opcode
  | .range => wordF0 i.opcode
  | .ulSet r g b => wordFC i.opcode r g b
  | .ulClear => wordF0 i.opcode
  | .ulShow => wordF0 i.opcode

end Sys2Proof
end

