-- ==== Sys2Proof/Machine/Ports.lean ====
section
/-!
DEFINITION. The ports of the block (10_state.md R18): the input levels of one cycle, the registered output levels, and the
pin levels that the event history records.
-/

namespace Sys2Proof.Machine

/-- The values on the input ports in one `clk` cycle (R18): a draw of the environment (R17, R150). -/
structure PortInputs where
  /-- `rst`, synchronous reset, active high. -/
  rst : Bool
  /-- `h_rd`, host read request. -/
  hRd : Bool
  /-- `h_wr`, host write request. -/
  hWr : Bool
  /-- `h_addr`, host word address; the byte offset is four times it. -/
  hAddr : BitVec 6
  /-- `h_wdata`, host write data. -/
  hWdata : Word
  /-- `b_done`, the collaborator finishes the transaction this cycle. -/
  bDone : Bool
  /-- `b_ok`, with `b_done`: the transfer succeeded. -/
  bOk : Bool
  /-- `btn_n`, the button pins, active low: bit 0 = A, 1 = B, 2 = X, 3 = Y. -/
  btnN : BitVec 4
  /-- `echo`, the ultrasonic echo line. -/
  echo : Bool
  /-- `periph_ready`, bus and pins were acquired. -/
  periphReady : Bool
deriving DecidableEq, Repr, Inhabited

/-- A cycle in which nothing happens on the inputs: no reset, no request, no answer, no button pressed, no echo, and the
peripherals acquired. -/
def PortInputs.quiet : PortInputs :=
  { rst := false, hRd := false, hWr := false, hAddr := 0, hWdata := 0, bDone := false, bOk := false,
    btnN := 0xF, echo := false, periphReady := true }

/-- The output levels that R65 records in every cycle. -/
structure PinLevels where
  motorEn : Bool
  trig : Bool
  mLa : Duty
  mLb : Duty
  mRa : Duty
  mRb : Duty
  blDuty : Vector Duty 4
deriving DecidableEq, Repr

/-- The registered output ports (R18, R37). `h_ready` and `h_rdata` depend on the request too and stand in
Machine/HostPort.lean. -/
structure OutputPorts where
  bValid : Bool
  bAddr : BitVec 7
  bReg : Byte
  bLen : BitVec 5
  bData : BitVec 144
  pins : PinLevels
deriving DecidableEq, Repr

end Sys2Proof.Machine
end

