-- ==== Sys2Proof/Machine/State.lean ====
section
/-!
DEFINITION. The state of the block, exactly the elements of 10_state.md R19, beside the model's own fields (the queue of
input draws, the cycle count and the event history of R65); the two reasons a step can stop; the state after reset.
-/

namespace Sys2Proof.Machine

/-- The completion codes of R40. Codes 6 to 15 are never written (R40, I9), so they have no constructor. -/
inductive ErrCode where
  /-- 0: the command completed normally. -/
  | ok
  /-- 1: unassigned opcode or nonzero reserved bits. -/
  | illegal
  /-- 2: speed or intensity out of range. -/
  | operand
  /-- 3: a bus transaction failed. -/
  | bus
  /-- 4: echo timeout. -/
  | noEcho
  /-- 5: INIT_FAILED = 1. -/
  | notReady
deriving DecidableEq, Repr

/-- The ranging states of R41. -/
inductive RState where
  /-- 0: IDLE. -/
  | idle
  /-- 1: TRIGGERED. -/
  | triggered
  /-- 2: AWAIT_START. -/
  | awaitStart
  /-- 3: AWAIT_END. -/
  | awaitEnd
deriving DecidableEq, Repr

/-- The events of R65. -/
inductive Event where
  /-- A completed host read of the register at byte offset `off`. -/
  | hostRead (off : BitVec 8) (value : Word)
  /-- A completed host write to byte offset `off`. -/
  | hostWrite (off : BitVec 8) (value : Word)
  /-- The acceptance of a command word. -/
  | accept (w : Word)
  /-- A finished bus transaction; `ok` is its result. -/
  | bus (addr : BitVec 7) (reg : Byte) (bytes : List Byte) (ok : Bool)
  /-- A completion with its code. -/
  | complete (code : ErrCode)
  /-- The output levels of the cycle. -/
  | pins (levels : PinLevels)
deriving DecidableEq, Repr

/-- Why a step stops with a fault. No command meaning answers one. -/
inductive Fault where
  /-- Raised by the bus sequencer when B_VALID = 1 and CUR and SEQ name no transaction. R42 (c) excludes such a state and the
  spec gives no behaviour in it. Safe: the model stops where a run from reset never comes (log 7). -/
  | noTransaction
deriving DecidableEq, Repr

/-- Why a step is refused. No command meaning answers one. -/
inductive Refusal where
  /-- Raised by a dispatch arm that has no meaning yet; no arm answers it. Safe: the model stops. -/
  | notModelled (mnemonic : String)
  /-- Raised by the step in a cycle with h_rd = 1 and h_wr = 1, which is outside the host's contract and which the spec tells
  a model to refuse (R48, D28, I11). Safe: the model stops (log 6). -/
  | hostReadAndWrite
deriving DecidableEq, Repr

/-- The state: the elements of R19 in its order, and the model's own three fields. -/
structure State where
  /-- INIT_DONE: the initialisation step has run (R156). -/
  initDone : Bool
  /-- BUSY, STATUS[0] (R22). -/
  busy : Bool
  /-- INIT_FAILED, STATUS[1] (R22). -/
  initFailed : Bool
  /-- RANGE_VALID, STATUS[2] (R22, R126). -/
  rangeValid : Bool
  /-- BUS_FAULT, STATUS[3] (R22, R25). -/
  busFault : Bool
  /-- LAST_ERR, STATUS[7:4] (R40). -/
  lastErr : ErrCode
  /-- MOTOR_EN, STATUS[8] and port motor_en (R114). -/
  motorEn : Bool
  /-- TRIG, STATUS[9] and port trig (R119). -/
  trig : Bool
  /-- RSTATE, STATUS[11:10] (R41). -/
  rstate : RState
  /-- CUR: the word of the command in flight, or 0 (R21). -/
  cur : Word
  /-- SEQ: the index of the bus transaction in flight (R21). -/
  seq : BitVec 2
  /-- PRESC: the microsecond prescaler (R117). -/
  presc : Word
  /-- TCOUNT: the trigger ticks counted (R119). -/
  tcount : BitVec 4
  /-- HCOUNT: the echo-high ticks counted (R120, R121). -/
  hcount : Word
  /-- WCOUNT: the echo-wait ticks counted for the timeout (R122). -/
  wcount : Word
  /-- RANGE_US (R27). -/
  rangeUs : Word
  /-- RANGE_DIST (R28). -/
  rangeDist : Word
  /-- BTN_LATCH (R26, R101). -/
  btnLatch : BitVec 4
  /-- LIGHT[0..3], for buttons A, B, X, Y (R30, R39). -/
  light : Vector Duty 4
  /-- DUTY_LA: left motor, pin A (R107). -/
  dutyLA : Duty
  /-- DUTY_LB: left motor, pin B (R107). -/
  dutyLB : Duty
  /-- DUTY_RA: right motor, pin A (R107). -/
  dutyRA : Duty
  /-- DUTY_RB: right motor, pin B (R107). -/
  dutyRB : Duty
  /-- LED_MASK: the channel mask shadow (R31). -/
  ledMask : ChannelMask
  /-- UL_BUF[0..17] (R34, R128). -/
  ulBuf : Vector Byte 18
  /-- B_VALID: a bus transaction is requested (R37). -/
  bValid : Bool
  /-- The model's own: the input draws of the coming cycles, the next one first; where it is empty the draw is free (log 1). -/
  inputs : List PortInputs
  /-- The model's own: the number of the latest cycle begun (log 2). -/
  cycle : Nat
  /-- The model's own: the event history of R65, newest first, each event with its cycle (log 2). -/
  trace : List (Nat × Event)
deriving DecidableEq, Repr

/-- The state right after reset (R19, R154). The queue of draws is empty, the cycle count 0 and the history empty: the model's
own fields, DESIGN CHOICE (logs 1 and 2). -/
def State.reset : State :=
  { initDone := false
    busy := true
    initFailed := false
    rangeValid := false
    busFault := false
    lastErr := .ok
    motorEn := false
    trig := false
    rstate := .idle
    cur := 0
    seq := 0
    presc := 0
    tcount := 0
    hcount := 0
    wcount := 0
    rangeUs := 0
    rangeDist := 0
    btnLatch := 0
    light := Vector.replicate 4 0
    dutyLA := 0
    dutyLB := 0
    dutyRA := 0
    dutyRB := 0
    ledMask := 0x3FFFF
    ulBuf := Vector.replicate 18 0
    bValid := false
    inputs := []
    cycle := 0
    trace := [] }

end Sys2Proof.Machine
end

