-- ==== Sys2Proof/Machine/Flags.lean ====
section
/-!
DEFINITION. The encodings of the status fields and the STATUS register (10_state.md R25, R40, R41), and the write-1-to-clear
of BUS_FAULT (R25, R50).
-/

namespace Sys2Proof.Machine

/-- The value of a completion code in LAST_ERR (R40). -/
def ErrCode.bits : ErrCode → BitVec 4
  | .ok => 0
  | .illegal => 1
  | .operand => 2
  | .bus => 3
  | .noEcho => 4
  | .notReady => 5

/-- The value of a ranging state in RSTATE (R41). -/
def RState.bits : RState → BitVec 2
  | .idle => 0
  | .triggered => 1
  | .awaitStart => 2
  | .awaitEnd => 3

/-- A one-bit field. -/
def bit (v : Bool) : BitVec 1 := BitVec.ofBool v

/-- The STATUS register, from bit 31 down to bit 0 (R25). -/
def statusWord (s : State) : Word :=
  0#20 ++ s.rstate.bits ++ bit s.trig ++ bit s.motorEn ++ s.lastErr.bits ++
    bit s.busFault ++ bit s.rangeValid ++ bit s.initFailed ++ bit s.busy

/-- A host write of w to STATUS: bit 3 clears BUS_FAULT, unless a transaction fails in the same cycle; every other bit is
ignored (R25, R50, D36). -/
def statusWrite (w : Word) (failing : Bool) (s : State) : State :=
  if w.getLsbD 3 then { s with busFault := failing } else s

end Sys2Proof.Machine
end

