-- ==== Sys2Proof/Config.lean ====
section
/-!
DEFINITION. What an implementation fixes and the spec leaves open: the parameters of 00_scope.md R8, and the environment's
draws (10_state.md R17). Both are free values: constants with no body.
-/

namespace Sys2Proof.Config

/-- A PWM carrier frequency in hertz, a positive real (R8). No rule reads one. The value 1 only shows that the type has a
member, which the constant `params` needs: R8 gives no default, and `params` is not that value (log 3). -/
structure Carrier where
  hz : ℝ := 1
  positive : 0 < hz := by norm_num
deriving Inhabited

/-- The parameters of R8. The model takes them as an argument. -/
structure Params where
  /-- P_CLK_PER_US - 1, the last value of the prescaler (R117). P_CLK_PER_US is at least 1 (R8) and PRESC has 32 bits
  (R147), so P_CLK_PER_US - 1 is a 32-bit number. DEDUCED (log 4). -/
  clkPerUsPred : Word
  /-- P_BUS_ADDR. -/
  busAddr : BitVec 7
  /-- P_REG_ENABLE_OUTPUT. -/
  regEnableOutput : Byte
  /-- P_REG_PWM. -/
  regPwm : Byte
  /-- P_REG_ENABLE_CHANNELS. -/
  regEnableChannels : Byte
  /-- P_REG_UPDATE. -/
  regUpdate : Byte
  /-- P_REG_RESET. -/
  regReset : Byte
  /-- P_EN_ON. -/
  enOn : Byte
  /-- P_EN_OFF. -/
  enOff : Byte
  /-- P_MOTOR_PWM_HZ, an output constant that no rule reads (R115, D9). -/
  motorPwm : Carrier
  /-- P_LIGHT_PWM_HZ, an output constant that no rule reads (R106, D9). -/
  lightPwm : Carrier
  /-- P_ECHO_TIMEOUT_US; 0 = no timeout (R122, D21), which is its default (R8). -/
  echoTimeoutUs : Word := 0
deriving Inhabited

/-- P_CLK_PER_US, the `clk` cycles of a microsecond. -/
def Params.clkPerUs (p : Params) : Nat := p.clkPerUsPred.toNat + 1

/-- The parameters of this machine: a free value, on which nothing is known (I6, log 3). -/
opaque params : Params

/-- The environment's draw in cycle n where State's queue of inputs says nothing about that cycle: a free value (R17, I5,
I13, log 1). -/
opaque draw : Nat → Machine.PortInputs

end Sys2Proof.Config
end

