-- ==== Sys2Proof/Machine/Operands.lean ====
section
/-!
DEFINITION. What the commands compute from their operands: the Q2.14 ranges and the duty mapping (42_motor.md), the gamma
table, the lane map and the mask packing (40_led_driver.md), the underlight colour (44_underlight.md), the saturating
arithmetic and the distance (43_ranging.md), and the indices of 10_state.md R39.
-/

namespace Sys2Proof.Machine

/-! ### Q2.14 (R9, R72, R74, R108) -/

/-- 1.0 in Q2.14. -/
def fullDuty : Duty := 0x4000

/-- The value of an unsigned Q2.14 duty, duty / 16384 (R106, R115, R149). -/
def dutyFraction (d : Duty) : ℚ := d.toNat / 16384

/-- s_int = sext_16(S), the integer speed (R72, R108). -/
def speedInt (v : Duty) : Int := v.toInt

/-- The speed is legal: -16384 <= s_int <= 16384 (R108). -/
def speedInRange (v : Duty) : Bool := -16384 ≤ speedInt v && speedInt v ≤ 16384

/-- The intensity is legal: zext_16(I) <= 0x4000 (R104). -/
def intensityInRange (v : Duty) : Bool := v.toNat ≤ 0x4000

/-- The duty pair (A, B) of a legal integer speed (R109). -/
def dual (n : Int) : Duty × Duty :=
  if n > 0 then (fullDuty, BitVec.ofInt 16 (0x4000 - n))
  else if n < 0 then (BitVec.ofInt 16 (0x4000 + n), fullDuty)
  else (fullDuty, fullDuty)

/-! ### Indices (R39) -/

/-- The index of a button: A, B, X, Y are 0 to 3 (R39). -/
def buttonIndex : Button → Fin 4
  | .a => 0
  | .b => 1
  | .x => 2
  | .y => 3

/-! ### Saturation and distance (R11, R125) -/

/-- sat32(x) = min(x, 2^32 - 1) (R11). -/
def sat32 (n : Nat) : Word := BitVec.ofNat 32 (min n (2 ^ 32 - 1))

/-- RANGE_DIST of a measured HCOUNT: sat32(HCOUNT * 17) (R125). -/
def rangeDistance (hcount : Word) : Word := sat32 (hcount.toNat * 17)

/-! ### The gamma table (R85) -/

/-- LUT[0x00] to LUT[0x0F] (R85). -/
def lutRow0 : List Nat :=
  [1, 1, 1, 1, 1, 1, 1, 1, 1, 1, 1, 1, 1, 1, 1, 1]

/-- LUT[0x10] to LUT[0x1F] (R85). -/
def lutRow1 : List Nat :=
  [1, 1, 1, 1, 2, 2, 2, 2, 2, 2, 2, 2, 2, 2, 2, 2]

/-- LUT[0x20] to LUT[0x2F] (R85). -/
def lutRow2 : List Nat :=
  [2, 2, 2, 2, 2, 2, 2, 2, 2, 2, 2, 2, 3, 3, 3, 3]

/-- LUT[0x30] to LUT[0x3F] (R85). -/
def lutRow3 : List Nat :=
  [3, 3, 3, 3, 3, 3, 3, 3, 3, 3, 3, 4, 4, 4, 4, 4]

/-- LUT[0x40] to LUT[0x4F] (R85). -/
def lutRow4 : List Nat :=
  [4, 4, 4, 4, 4, 4, 4, 5, 5, 5, 5, 5, 5, 5, 5, 5]

/-- LUT[0x50] to LUT[0x5F] (R85). -/
def lutRow5 : List Nat :=
  [6, 6, 6, 6, 6, 6, 6, 6, 7, 7, 7, 7, 7, 7, 8, 8]

/-- LUT[0x60] to LUT[0x6F] (R85). -/
def lutRow6 : List Nat :=
  [8, 8, 8, 8, 9, 9, 9, 9, 9, 10, 10, 10, 10, 10, 11, 11]

/-- LUT[0x70] to LUT[0x7F] (R85). -/
def lutRow7 : List Nat :=
  [11, 11, 12, 12, 12, 12, 13, 13, 13, 14, 14, 14, 14, 15, 15, 15]

/-- LUT[0x80] to LUT[0x8F] (R85). -/
def lutRow8 : List Nat :=
  [16, 16, 16, 17, 17, 18, 18, 18, 19, 19, 20, 20, 21, 21, 21, 22]

/-- LUT[0x90] to LUT[0x9F] (R85). -/
def lutRow9 : List Nat :=
  [22, 23, 23, 24, 24, 25, 25, 26, 27, 27, 28, 28, 29, 30, 30, 31]

/-- LUT[0xA0] to LUT[0xAF] (R85). -/
def lutRowA : List Nat :=
  [32, 32, 33, 34, 35, 35, 36, 37, 38, 39, 39, 40, 41, 42, 43, 44]

/-- LUT[0xB0] to LUT[0xBF] (R85). -/
def lutRowB : List Nat :=
  [45, 46, 47, 48, 49, 50, 51, 52, 53, 55, 56, 57, 58, 59, 61, 62]

/-- LUT[0xC0] to LUT[0xCF] (R85). -/
def lutRowC : List Nat :=
  [63, 65, 66, 68, 69, 71, 72, 74, 76, 77, 79, 81, 82, 84, 86, 88]

/-- LUT[0xD0] to LUT[0xDF] (R85). -/
def lutRowD : List Nat :=
  [90, 92, 94, 96, 98, 100, 102, 105, 107, 109, 112, 114, 117, 119, 122, 124]

/-- LUT[0xE0] to LUT[0xEF] (R85). -/
def lutRowE : List Nat :=
  [127, 130, 133, 136, 139, 142, 145, 148, 151, 155, 158, 162, 165, 169, 172, 176]

/-- LUT[0xF0] to LUT[0xFF] (R85). -/
def lutRowF : List Nat :=
  [180, 184, 188, 192, 196, 201, 205, 210, 214, 219, 224, 229, 234, 239, 244, 250]

/-- The 256 entries of LUT, v = 0 first (R85). -/
def lutTable : List Nat :=
  lutRow0 ++ lutRow1 ++ lutRow2 ++ lutRow3 ++ lutRow4 ++ lutRow5 ++ lutRow6 ++ lutRow7 ++
  lutRow8 ++ lutRow9 ++ lutRowA ++ lutRowB ++ lutRowC ++ lutRowD ++ lutRowE ++ lutRowF

/-- LUT[v], the same for every channel (R85, R35). -/
def lut (v : Byte) : Byte := BitVec.ofNat 8 (lutTable.getD v.toNat 0)

/-- The lane map G: one LUT lookup per channel, channel 0 first (R87). -/
def laneMap (buf : Vector Byte 18) : List Byte := buf.toList.map lut

/-! ### The channel mask (R91) -/

/-- pack3(m): three bytes of six channels each, group 0 first (R91). -/
def pack3 (m : ChannelMask) : List Byte :=
  [(m.extractLsb' 0 6).zeroExtend 8, (m.extractLsb' 6 6).zeroExtend 8, (m.extractLsb' 12 6).zeroExtend 8]

/-! ### The underlight buffer (R128) -/

/-- The buffer with the colour (r, g, b) at all six positions (R128, R129). -/
def replicateColour (r g b : Byte) : Vector Byte 18 :=
  #v[r, g, b, r, g, b, r, g, b, r, g, b, r, g, b, r, g, b]

/-- The all-zero buffer (R130). -/
def zeroBuffer : Vector Byte 18 := Vector.replicate 18 0

end Sys2Proof.Machine
end

