-- ==== Sys2Proof/Machine/Ops.lean ====
section
/-!
DEFINITION. The operations that the commands and the units of the block share: recording an event, completing a command,
raising an error (this block's whole exception model, 60_exceptions.md R133), starting the bus sequencer, the NOT_READY check,
and the parts of a cycle that every cycle has.
-/

namespace Sys2Proof.Machine

/-- The three outcomes, for this block. -/
abbrev Result := Host.Outcome State Fault Refusal

/-- Go on with the next state; a fault or a refusal stays as it is. -/
def andThen (o : Result) (k : State → Result) : Result :=
  match o with
  | .next s => k s
  | .fault f => .fault f
  | .refused r => .refused r

/-- Add an event of the cycle in progress to the history (R65). -/
def record (e : Event) (s : State) : State :=
  { s with trace := (s.cycle, e) :: s.trace }

/-- complete(code): LAST_ERR <- code and BUSY <- 0, with the event Complete(code) (R13, R65). -/
def complete (code : ErrCode) (s : State) : State :=
  { record (.complete code) s with lastErr := code, busy := false }

/-- raise Err(code): complete(code) with no further effect of the command (R13, R133). The block has no trap, no saved
registers, no handler, and so no return (R133, R142, R143). -/
def raiseErr (code : ErrCode) (s : State) : State :=
  complete code s

/-- start_bus(w): CUR <- w, SEQ <- 0, B_VALID <- 1, BUSY <- 1 (R89). -/
def startBus (w : Word) (s : State) : State :=
  { s with cur := w, seq := 0, bValid := true, busy := true }

/-- The end of a bus command: B_VALID <- 0, CUR <- 0, SEQ <- 0, complete(code) (R89). -/
def closeBus (code : ErrCode) (s : State) : State :=
  complete code { s with bValid := false, cur := 0, seq := 0 }

/-- The first check at acceptance: NOT_READY while INIT_FAILED = 1 (R51, R135, R141). Otherwise the command's own acceptance
pseudocode runs. -/
def whenReady (s : State) (accepted : State → State) : Result :=
  .next (if s.initFailed then raiseErr .notReady s else accepted s)

/-- The duty registers of motor m take the pair (A, B) (R110). -/
def setMotor (m : Motor) (d : Duty × Duty) (s : State) : State :=
  match m with
  | .left => { s with dutyLA := d.1, dutyLB := d.2 }
  | .right => { s with dutyRA := d.1, dutyRB := d.2 }

/-- MOTOR_EN <- 1 and both motors take the duties of one integer speed (R111 to R113). -/
def setBothMotors (n : Int) (s : State) : State :=
  setMotor .right (dual n) (setMotor .left (dual n) { s with motorEn := true })

/-- The pin levels of the state (R37): registered copies of state elements. -/
def pinLevels (s : State) : PinLevels :=
  { motorEn := s.motorEn, trig := s.trig, mLa := s.dutyLA, mLb := s.dutyLB, mRa := s.dutyRA, mRb := s.dutyRB,
    blDuty := s.light }

/-- The inputs of the coming cycle: the head of the queue, or the free draw where the queue is empty (R17, log 1). -/
def State.pins (s : State) : PortInputs :=
  match s.inputs with
  | x :: _ => x
  | [] => Config.draw (s.cycle + 1)

/-- A cycle begins: it is counted, its draw leaves the queue, and its output levels are recorded (R65). -/
def beginCycle (s : State) : State :=
  { s with inputs := s.inputs.tail, cycle := s.cycle + 1, trace := (s.cycle + 1, .pins (pinLevels s)) :: s.trace }

/-- An edge with rst = 1: every state element takes its reset value (R154). The model's own fields go on. -/
def resetEdge (s : State) : State :=
  { State.reset with inputs := s.inputs, cycle := s.cycle, trace := s.trace }

/-- BTN_LATCH[i] <- NOT sample(btn_n[i]) (R101). -/
def sampleButtons (x : PortInputs) (s : State) : State :=
  { s with btnLatch := ~~~ x.btnN }

/-- The initialisation step: at the first edge outside reset with INIT_DONE = 0 (R156). -/
def initialise (x : PortInputs) (s : State) : State :=
  if s.initDone then s
  else { s with initDone := true, initFailed := !x.periphReady, busy := false }

end Sys2Proof.Machine
end

