-- ==== Sys2Proof/Machine/Bus.lean ====
section
/-!
DEFINITION. The bus transactions (40_led_driver.md R88 to R91), the transaction lists of the commands (R92 to R96, 44_underlight.md
R129 to R131), the sequencer (R89), and the output ports (10_state.md R37).
-/

namespace Sys2Proof.Machine

/-- The six transaction forms of R90. -/
inductive TxnForm where
  /-- T_ON. -/
  | on
  /-- T_OFF. -/
  | off
  /-- T_PWM. -/
  | pwm
  /-- T_MASK(m). -/
  | mask (m : ChannelMask)
  /-- T_UPDATE. -/
  | update
  /-- T_RESET. -/
  | reset
deriving DecidableEq, Repr

/-- The register byte of a transaction, b_reg (R90). -/
def TxnForm.reg (p : Config.Params) : TxnForm → Byte
  | .on => p.regEnableOutput
  | .off => p.regEnableOutput
  | .pwm => p.regPwm
  | .mask _ => p.regEnableChannels
  | .update => p.regUpdate
  | .reset => p.regReset

/-- The payload of a transaction, byte 0 first (R90). T_PWM reads UL_BUF in the cycle it is presented. -/
def TxnForm.payload (p : Config.Params) (buf : Vector Byte 18) : TxnForm → List Byte
  | .on => [p.enOn]
  | .off => [p.enOff]
  | .pwm => laneMap buf
  | .mask m => pack3 m
  | .update => [0xFF]
  | .reset => [0xFF]

/-- txns: the transaction list of a command, empty for a command that issues none (R92 to R96, R129 to R131). -/
def txns : Instr → List TxnForm
  | .ledReset => [.reset]
  | .ledEnable => [.on]
  | .ledDisable => [.off]
  | .ledSetMask mask => [.mask mask, .update]
  | .ledOutput => [.pwm, .update]
  | .btnLight _ _ => []
  | .btnLightsClear => []
  | .motorSet _ _ => []
  | .motorForward => []
  | .motorBackward => []
  | .motorStop => []
  | .range => []
  | .ulSet _ _ _ => [.pwm, .update, .on]
  | .ulClear => [.off]
  | .ulShow => [.pwm, .update, .on]

/-- A bus command: one that issues transactions (R138). -/
def isBusCommand (i : Instr) : Bool := !(txns i).isEmpty

/-- The transaction list of the word in CUR: empty where CUR holds no command (R89). -/
def curTxns (w : Word) : List TxnForm :=
  match decode w with
  | some i => txns i
  | none => []

/-- The transaction in flight: number SEQ of the list of CUR (R37, R89). -/
def currentTxn (s : State) : Option TxnForm := (curTxns s.cur)[s.seq.toNat]?

/-- The event of a transaction that finishes with result `ok` (R88, R65). -/
def busEvent (p : Config.Params) (t : TxnForm) (buf : Vector Byte 18) (ok : Bool) : Event :=
  .bus p.busAddr (t.reg p) (t.payload p buf) ok

/-- The collaborator's answer `ok` to transaction t (R89): a failure ends the command with BUS, a success goes on to the next
transaction or ends the command with OK. -/
def answerTxn (p : Config.Params) (ok : Bool) (t : TxnForm) (s : State) : State :=
  if ok = false then
    closeBus .bus { record (busEvent p t s.ulBuf ok) s with busFault := true }
  else if s.seq.toNat + 1 < (curTxns s.cur).length then
    { record (busEvent p t s.ulBuf ok) s with seq := s.seq + 1 }
  else closeBus .ok (record (busEvent p t s.ulBuf ok) s)

/-- The sequencer in one cycle outside reset (R88, R89). An answer while B_VALID = 0 is ignored (R148). -/
def busCycle (p : Config.Params) (x : PortInputs) (s : State) : Result :=
  if s.bValid then
    match currentTxn s with
    | none => .fault .noTransaction
    | some t => .next (if x.bDone then answerTxn p x.bOk t s else s)
  else .next s

/-- A transaction fails in this cycle (R25, R89). -/
def txnFails (x : PortInputs) (s : State) : Bool := s.bValid && x.bDone && !x.bOk

/-- b_data: byte k at bits [8k+7:8k], 0 above the payload (R18, R88). -/
def packPayload : List Byte → BitVec 144
  | [] => 0
  | byte :: rest => (packPayload rest <<< 8) ||| byte.zeroExtend 144

/-- The output ports (R18, R37): registered copies of the state; the bus fields are 0 while B_VALID = 0. -/
def outputs (p : Config.Params) (s : State) : OutputPorts :=
  match s.bValid, currentTxn s with
  | true, some t =>
    { bValid := true, bAddr := p.busAddr, bReg := t.reg p, bLen := BitVec.ofNat 5 (t.payload p s.ulBuf).length
      bData := packPayload (t.payload p s.ulBuf), pins := pinLevels s }
  | v, _ => { bValid := v, bAddr := 0, bReg := 0, bLen := 0, bData := 0, pins := pinLevels s }

end Sys2Proof.Machine
end

