-- ==== Sys2Proof/Machine/Indicator.lean ====
section
/-!
DEFINITION. The indicator-light commands (41_buttons.md R104, R105). The button latch is `sampleButtons` in Machine/Ops.lean.
-/

namespace Sys2Proof.Machine

/-- BTN_LIGHT: OPERAND when I > 0x4000, else LIGHT[BTN] <- I and complete(OK) (R104). -/
def execBtnLight (btn : Button) (intensity : Duty) (s : State) : Result :=
  whenReady s fun s =>
    if intensityInRange intensity then
      complete .ok { s with light := s.light.set (buttonIndex btn) intensity }
    else raiseErr .operand s

/-- BTN_LIGHTS_CLEAR: all four lights to 0 at one edge, complete(OK) (R105). -/
def execBtnLightsClear (s : State) : Result :=
  whenReady s fun s => complete .ok { s with light := Vector.replicate 4 0 }

end Sys2Proof.Machine
end

