-- ==== Sys2Proof/Machine/Led.lean ====
section
/-!
DEFINITION. The five LED-driver commands at acceptance (40_led_driver.md R92 to R96). Their transactions are in Machine/Bus.lean.
-/

namespace Sys2Proof.Machine

/-- LED_RESET: start_bus(w) (R92). LED_MASK and UL_BUF stay (D33). -/
def execLedReset (s : State) : Result :=
  whenReady s fun s => startBus (encode .ledReset) s

/-- LED_ENABLE: start_bus(w) (R93). -/
def execLedEnable (s : State) : Result :=
  whenReady s fun s => startBus (encode .ledEnable) s

/-- LED_DISABLE: start_bus(w) (R94). -/
def execLedDisable (s : State) : Result :=
  whenReady s fun s => startBus (encode .ledDisable) s

/-- LED_SET_MASK: LED_MASK <- MASK, then start_bus(w) (R95). -/
def execLedSetMask (mask : ChannelMask) (s : State) : Result :=
  whenReady s fun s => startBus (encode (.ledSetMask mask)) { s with ledMask := mask }

/-- LED_OUTPUT: start_bus(w) (R96). -/
def execLedOutput (s : State) : Result :=
  whenReady s fun s => startBus (encode .ledOutput) s

end Sys2Proof.Machine
end

