-- ==== Sys2Proof/Machine/Motor.lean ====
section
/-!
DEFINITION. The motor commands (42_motor.md R110 to R113).
-/

namespace Sys2Proof.Machine

/-- MOTOR_SET: OPERAND when the speed is out of range, with nothing changed; else MOTOR_EN <- 1, the motor's duties take
dual(s_int), complete(OK) (R110). -/
def execMotorSet (motor : Motor) (speed : Duty) (s : State) : Result :=
  whenReady s fun s =>
    if speedInRange speed then
      complete .ok (setMotor motor (dual (speedInt speed)) { s with motorEn := true })
    else raiseErr .operand s

/-- MOTOR_FORWARD: both motors at +1.0 (R111). -/
def execMotorForward (s : State) : Result :=
  whenReady s fun s => complete .ok (setBothMotors 16384 s)

/-- MOTOR_BACKWARD: both motors at -1.0 (R112). -/
def execMotorBackward (s : State) : Result :=
  whenReady s fun s => complete .ok (setBothMotors (-16384) s)

/-- MOTOR_STOP: both motors at 0.0, all four duties 1.0; MOTOR_EN is asserted (R113). -/
def execMotorStop (s : State) : Result :=
  whenReady s fun s => complete .ok (setBothMotors 0 s)

end Sys2Proof.Machine
end

