-- ==== Sys2Proof/Machine/Ranging.lean ====
section
/-!
DEFINITION. RANGE at acceptance and the ranging timer (43_ranging.md R117 to R122).
-/

namespace Sys2Proof.Machine

/-- RANGE: RANGE_VALID and the counters to 0, TRIG <- 1, RSTATE <- TRIGGERED, CUR <- w, BUSY <- 1 (R118). -/
def execRange (s : State) : Result :=
  whenReady s fun s =>
    { s with
      rangeValid := false, trig := true, presc := 0, tcount := 0, hcount := 0, wcount := 0
      rstate := .triggered, cur := encode .range, busy := true }

/-- tick: PRESC = P_CLK_PER_US - 1 (R117). -/
def isTick (p : Config.Params) (s : State) : Bool := s.presc == p.clkPerUsPred

/-- timeout_step() (R122). Its RSTATE overrides the one that the same tick wrote. -/
def timeoutStep (p : Config.Params) (s : State) : State :=
  if p.echoTimeoutUs = 0 then s
  else
    let n := sat32 (s.wcount.toNat + 1)
    if p.echoTimeoutUs ≤ n then
      complete .noEcho { s with rstate := .idle, presc := 0, cur := 0, trig := false }
    else { s with wcount := n }

/-- A tick in TRIGGERED (R119). Echo is not sampled. -/
def tickTriggered (s : State) : State :=
  if s.tcount = 9 then { s with trig := false, tcount := 0, rstate := .awaitStart }
  else { s with tcount := s.tcount + 1 }

/-- A tick in AWAIT_START, with e = sample(echo) (R120). -/
def tickAwaitStart (p : Config.Params) (e : Bool) (s : State) : State :=
  timeoutStep p (if e then { s with hcount := 1, rstate := .awaitEnd } else s)

/-- A tick in AWAIT_END, with e = sample(echo) (R121). -/
def tickAwaitEnd (p : Config.Params) (e : Bool) (s : State) : State :=
  if e then timeoutStep p { s with hcount := sat32 (s.hcount.toNat + 1) }
  else
    complete .ok
      { s with
        rangeUs := s.hcount, rangeDist := rangeDistance s.hcount, rangeValid := true
        rstate := .idle, presc := 0, cur := 0 }

/-- What a tick does in the ranging state it finds (R119 to R121). -/
def rangeTick (p : Config.Params) (e : Bool) (s : State) : State :=
  match s.rstate with
  | .idle => s
  | .triggered => tickTriggered s
  | .awaitStart => tickAwaitStart p e s
  | .awaitEnd => tickAwaitEnd p e s

/-- The ranging timer in one cycle outside reset: PRESC counts while RSTATE is not IDLE, and only ticks advance the ranging
state (R117). -/
def rangeCycle (p : Config.Params) (x : PortInputs) (s : State) : State :=
  if s.rstate = .idle then s
  else if isTick p s then rangeTick p x.echo { s with presc := 0 }
  else { s with presc := s.presc + 1 }

end Sys2Proof.Machine
end

