-- ==== Sys2Proof/Machine/Underlight.lean ====
section
/-!
DEFINITION. The underlight commands at acceptance (44_underlight.md R129 to R131). Their transactions are in Machine/Bus.lean.
-/

namespace Sys2Proof.Machine

/-- UL_SET: all six positions take the colour, then start_bus(w) (R129). -/
def execUlSet (r g b : Byte) (s : State) : Result :=
  whenReady s fun s => startBus (encode (.ulSet r g b)) { s with ulBuf := replicateColour r g b }

/-- UL_CLEAR: the buffer is zeroed, then start_bus(w) (R130). -/
def execUlClear (s : State) : Result :=
  whenReady s fun s => startBus (encode .ulClear) { s with ulBuf := zeroBuffer }

/-- UL_SHOW: start_bus(w); UL_BUF is not modified (R131). -/
def execUlShow (s : State) : Result :=
  whenReady s fun s => startBus (encode .ulShow) s

end Sys2Proof.Machine
end

