-- ==== Sys2Proof/Machine/Dispatch.lean ====
section
/-!
DEFINITION. The dispatch of a decoded command to its meaning: its acceptance at the edge that ends the cycle of the CMD write
(00_scope.md R14, 20_memory.md R51).
-/

namespace Sys2Proof.Machine

def exec (i : Instr) (s : State) : Host.Outcome State Fault Refusal :=
  match i with
  | .ledReset => Sys2Proof.Machine.execLedReset s
  | .ledEnable => Sys2Proof.Machine.execLedEnable s
  | .ledDisable => Sys2Proof.Machine.execLedDisable s
  | .ledSetMask mask => Sys2Proof.Machine.execLedSetMask mask s
  | .ledOutput => Sys2Proof.Machine.execLedOutput s
  | .btnLight btn intensity => Sys2Proof.Machine.execBtnLight btn intensity s
  | .btnLightsClear => Sys2Proof.Machine.execBtnLightsClear s
  | .motorSet motor speed => Sys2Proof.Machine.execMotorSet motor speed s
  | .motorForward => Sys2Proof.Machine.execMotorForward s
  | .motorBackward => Sys2Proof.Machine.execMotorBackward s
  | .motorStop => Sys2Proof.Machine.execMotorStop s
  | .range => Sys2Proof.Machine.execRange s
  | .ulSet r g b => Sys2Proof.Machine.execUlSet r g b s
  | .ulClear => Sys2Proof.Machine.execUlClear s
  | .ulShow => Sys2Proof.Machine.execUlShow s

end Sys2Proof.Machine
end

