-- ==== Sys2Proof/Machine/Registers.lean ====
section
/-!
DEFINITION. The host-visible registers and what a read of each gives (10_state.md R23 to R33).
-/

namespace Sys2Proof.Machine

/-- The mapped registers of R23. -/
inductive RegName where
  | cmd | status | btn | rangeUs | rangeDist | motorL | motorR | lightAB | lightXY | ledMask
  | ulBuf0 | ulBuf1 | ulBuf2 | ulBuf3 | ulBuf4
deriving DecidableEq, Repr

/-- The word address of a register: its offset divided by four (R23). -/
def RegName.addr : RegName → BitVec 6
  | .cmd => 0
  | .status => 1
  | .btn => 2
  | .rangeUs => 3
  | .rangeDist => 4
  | .motorL => 5
  | .motorR => 6
  | .lightAB => 7
  | .lightXY => 8
  | .ledMask => 9
  | .ulBuf0 => 10
  | .ulBuf1 => 11
  | .ulBuf2 => 12
  | .ulBuf3 => 13
  | .ulBuf4 => 14

/-- The registers in the order of R23. -/
def allRegs : List RegName :=
  [.cmd, .status, .btn, .rangeUs, .rangeDist, .motorL, .motorR, .lightAB, .lightXY, .ledMask,
   .ulBuf0, .ulBuf1, .ulBuf2, .ulBuf3, .ulBuf4]

/-- The register at a word address; none at the unmapped offsets 0x3C to 0xFC (R23, R33). -/
def regAt (a : BitVec 6) : Option RegName := allRegs[a.toNat]?

/-- The byte offset of a word address, 4 x h_addr (R23). -/
def byteOffset (a : BitVec 6) : BitVec 8 := a ++ 0#2

/-- UL_BUF[c], and 0 past the buffer (R32). -/
def ulByte (s : State) (c : Nat) : Byte := s.ulBuf.toList.getD c 0

/-- Register UL_BUFk: bytes 4k to 4k + 3, little-endian; bits [31:16] of UL_BUF4 read 0 (R32, D35). -/
def ulBufWord (k : Nat) (s : State) : Word :=
  ulByte s (4 * k + 3) ++ ulByte s (4 * k + 2) ++ ulByte s (4 * k + 1) ++ ulByte s (4 * k)

/-- The read value of a register (R24 to R32). -/
def regValue (r : RegName) (s : State) : Word :=
  match r with
  | .cmd => 0
  | .status => statusWord s
  | .btn => 0#28 ++ s.btnLatch
  | .rangeUs => s.rangeUs
  | .rangeDist => s.rangeDist
  | .motorL => s.dutyLB ++ s.dutyLA
  | .motorR => s.dutyRB ++ s.dutyRA
  | .lightAB => s.light[1] ++ s.light[0]
  | .lightXY => s.light[3] ++ s.light[2]
  | .ledMask => 0#14 ++ s.ledMask
  | .ulBuf0 => ulBufWord 0 s
  | .ulBuf1 => ulBufWord 1 s
  | .ulBuf2 => ulBufWord 2 s
  | .ulBuf3 => ulBufWord 3 s
  | .ulBuf4 => ulBufWord 4 s

/-- MemRead: the value read at a word address; unmapped offsets read 0 (R33, R49). -/
def memRead (a : BitVec 6) (s : State) : Word :=
  match regAt a with
  | some r => regValue r s
  | none => 0

/-- isPressed(i): bit i of BTN (R102). -/
def isPressed (button : Button) (s : State) : Bool := (regValue .btn s).getLsbD (buttonIndex button).val

end Sys2Proof.Machine
end

