-- ==== Sys2Proof/Machine/HostPort.lean ====
section
/-!
DEFINITION. The host register port (20_memory.md R48 to R52): when a transfer completes, what a read returns, and what a
completed transfer does to the block.
-/

namespace Sys2Proof.Machine

/-- h_ready in the cycle (R38, R49 to R52, R155): 0 while rst = 1, whatever the request; outside reset 0 for a CMD write while
BUSY = 1, and 1 for any other read or write. Outside reset the spec gives h_ready no value in an idle cycle, and a cycle with
both requests is outside the contract: none (log 9). -/
def hReady (x : PortInputs) (s : State) : Option Bool :=
  if x.rst then some false
  else
    match x.hRd, x.hWr with
    | true, false => some true
    | false, true => some (!(x.hAddr == RegName.cmd.addr && s.busy))
    | _, _ => none

/-- A transfer completes in this cycle (R48). -/
def transferCompletes (x : PortInputs) (s : State) : Bool := hReady x s == some true

/-- h_rdata, valid when h_rd = 1 and h_ready = 1 (R18, R49); none where it is not valid (log 9). -/
def hRdata (x : PortInputs) (s : State) : Option Word :=
  if x.hRd && transferCompletes x s then some (memRead x.hAddr s) else none

/-- The acceptance of the command word w (R51, R141): NOT_READY before ILLEGAL before the command's own acceptance. -/
def acceptWord (w : Word) (s : State) : Result :=
  match decode w with
  | some i => exec i (record (.accept w) s)
  | none => .next (raiseErr (if s.initFailed then .notReady else .illegal) (record (.accept w) s))

/-- A completed write to an offset other than CMD (R50): STATUS takes the write-1-to-clear, every other write is ignored. -/
def registerWrite (a : BitVec 6) (w : Word) (failing : Bool) (s : State) : State :=
  if a = RegName.status.addr then statusWrite w failing s else s

/-- The host port in one cycle outside reset (R49 to R51). `s0` is the state at the start of the cycle, which decides the
stall and which a read sees (R12, R38); `s` is the state with the cycle's other writes. -/
def hostCycle (x : PortInputs) (s0 s : State) : Result :=
  if transferCompletes x s0 then
    if x.hRd then .next (record (.hostRead (byteOffset x.hAddr) (memRead x.hAddr s0)) s)
    else if x.hAddr = RegName.cmd.addr then
      acceptWord x.hWdata (record (.hostWrite (byteOffset x.hAddr) x.hWdata) s)
    else
      .next (registerWrite x.hAddr x.hWdata (txnFails x s0)
        (record (.hostWrite (byteOffset x.hAddr) x.hWdata) s))
  else .next s

end Sys2Proof.Machine
end

