-- ==== Sys2Proof/Machine/Cycle.lean ====
section
/-!
DEFINITION. One `clk` cycle of the block with given parameters and inputs (10_state.md R17, 00_scope.md R12), and a run over a
list of input draws.
-/

namespace Sys2Proof.Machine

/-- The units that act on their own in a cycle outside reset, before the host port: the button latch, the bus sequencer, the
initialisation step and the ranging timer (R101, R89, R156, R117). In every state of R42 at most one of the last three does
anything. -/
def unitsCycle (p : Config.Params) (x : PortInputs) (s : State) : Result :=
  andThen (busCycle p x (sampleButtons x (beginCycle s))) fun s1 =>
    .next (rangeCycle p x (initialise x s1))

/-- One cycle with the inputs x: the request that the contract excludes is refused (R48), reset wins over everything else
(R154), and otherwise the units and the host port act. -/
def cycleWith (p : Config.Params) (x : PortInputs) (s : State) : Result :=
  if x.hRd && x.hWr then .refused .hostReadAndWrite
  else if x.rst then .next (resetEdge (beginCycle s))
  else andThen (unitsCycle p x s) fun s1 => hostCycle x s s1

/-- A run over the given draws, one cycle each. -/
def runCycles (p : Config.Params) : List PortInputs → State → Result
  | [], s => .next s
  | x :: rest, s => andThen (cycleWith p x s) (runCycles p rest)

/-- The inputs that present the command word w to CMD: a host write with every other input quiet (R51). -/
def cmdWrite (w : Word) : PortInputs :=
  { PortInputs.quiet with hWr := true, hAddr := RegName.cmd.addr, hWdata := w }

/-- The state with the command word w presented to CMD in the coming cycle, and the block ready to accept it: initialised,
idle, no transaction and no measurement in flight (R51, R156, R42). -/
def presentCommand (w : Word) (s : State) : State :=
  { s with
    inputs := cmdWrite w :: s.inputs.tail
    initDone := true, busy := false, bValid := false, rstate := .idle }

end Sys2Proof.Machine
end

