-- ==== Sys2Proof/Machine/Step.lean ====
section
/-!
DEFINITION. The step: one `clk` cycle with this machine's parameters and the inputs of the coming cycle. And the state in which
the host presents one command word.
-/

namespace Sys2Proof.Machine

/-- One `clk` cycle (R17). -/
def step (s : State) : Host.Outcome State Fault Refusal :=
  cycleWith Config.params s.pins s

/-- The command word stored where the step takes its next instruction: the block has no program counter and fetches nothing
(R21, R47), so it is presented as a CMD write in the coming cycle to a block that is ready for it (log 12). -/
def State.withFetchWord (s : State) (nbits w : Nat) : State :=
  presentCommand (BitVec.ofNat 32 (w % 2 ^ nbits)) s

end Sys2Proof.Machine
end

