-- ==== Sys2Proof/Laws/State.lean ====
section
/-!
SUPPORT. What each shared operation on the state leaves in each field: one lemma per field per operation, true by rfl or by the
cases of its condition, so that no later proof unfolds a record update.
-/

namespace Sys2Proof.Machine

/-! ### record -/

@[simp] theorem record_initDone (e : Event) (s : State) :
    (record e s).initDone = s.initDone := rfl
@[simp] theorem record_busy (e : Event) (s : State) :
    (record e s).busy = s.busy := rfl
@[simp] theorem record_initFailed (e : Event) (s : State) :
    (record e s).initFailed = s.initFailed := rfl
@[simp] theorem record_rangeValid (e : Event) (s : State) :
    (record e s).rangeValid = s.rangeValid := rfl
@[simp] theorem record_busFault (e : Event) (s : State) :
    (record e s).busFault = s.busFault := rfl
@[simp] theorem record_lastErr (e : Event) (s : State) :
    (record e s).lastErr = s.lastErr := rfl
@[simp] theorem record_motorEn (e : Event) (s : State) :
    (record e s).motorEn = s.motorEn := rfl
@[simp] theorem record_trig (e : Event) (s : State) :
    (record e s).trig = s.trig := rfl
@[simp] theorem record_rstate (e : Event) (s : State) :
    (record e s).rstate = s.rstate := rfl
@[simp] theorem record_cur (e : Event) (s : State) :
    (record e s).cur = s.cur := rfl
@[simp] theorem record_seq (e : Event) (s : State) :
    (record e s).seq = s.seq := rfl
@[simp] theorem record_presc (e : Event) (s : State) :
    (record e s).presc = s.presc := rfl
@[simp] theorem record_tcount (e : Event) (s : State) :
    (record e s).tcount = s.tcount := rfl
@[simp] theorem record_hcount (e : Event) (s : State) :
    (record e s).hcount = s.hcount := rfl
@[simp] theorem record_wcount (e : Event) (s : State) :
    (record e s).wcount = s.wcount := rfl
@[simp] theorem record_rangeUs (e : Event) (s : State) :
    (record e s).rangeUs = s.rangeUs := rfl
@[simp] theorem record_rangeDist (e : Event) (s : State) :
    (record e s).rangeDist = s.rangeDist := rfl
@[simp] theorem record_btnLatch (e : Event) (s : State) :
    (record e s).btnLatch = s.btnLatch := rfl
@[simp] theorem record_light (e : Event) (s : State) :
    (record e s).light = s.light := rfl
@[simp] theorem record_dutyLA (e : Event) (s : State) :
    (record e s).dutyLA = s.dutyLA := rfl
@[simp] theorem record_dutyLB (e : Event) (s : State) :
    (record e s).dutyLB = s.dutyLB := rfl
@[simp] theorem record_dutyRA (e : Event) (s : State) :
    (record e s).dutyRA = s.dutyRA := rfl
@[simp] theorem record_dutyRB (e : Event) (s : State) :
    (record e s).dutyRB = s.dutyRB := rfl
@[simp] theorem record_ledMask (e : Event) (s : State) :
    (record e s).ledMask = s.ledMask := rfl
@[simp] theorem record_ulBuf (e : Event) (s : State) :
    (record e s).ulBuf = s.ulBuf := rfl
@[simp] theorem record_bValid (e : Event) (s : State) :
    (record e s).bValid = s.bValid := rfl
@[simp] theorem record_inputs (e : Event) (s : State) :
    (record e s).inputs = s.inputs := rfl
@[simp] theorem record_cycle (e : Event) (s : State) :
    (record e s).cycle = s.cycle := rfl
@[simp] theorem record_trace (e : Event) (s : State) :
    (record e s).trace = (s.cycle, e) :: s.trace := rfl

/-! ### complete -/

@[simp] theorem complete_initDone (code : ErrCode) (s : State) :
    (complete code s).initDone = s.initDone := rfl
@[simp] theorem complete_busy (code : ErrCode) (s : State) :
    (complete code s).busy = false := rfl
@[simp] theorem complete_initFailed (code : ErrCode) (s : State) :
    (complete code s).initFailed = s.initFailed := rfl
@[simp] theorem complete_rangeValid (code : ErrCode) (s : State) :
    (complete code s).rangeValid = s.rangeValid := rfl
@[simp] theorem complete_busFault (code : ErrCode) (s : State) :
    (complete code s).busFault = s.busFault := rfl
@[simp] theorem complete_lastErr (code : ErrCode) (s : State) :
    (complete code s).lastErr = code := rfl
@[simp] theorem complete_motorEn (code : ErrCode) (s : State) :
    (complete code s).motorEn = s.motorEn := rfl
@[simp] theorem complete_trig (code : ErrCode) (s : State) :
    (complete code s).trig = s.trig := rfl
@[simp] theorem complete_rstate (code : ErrCode) (s : State) :
    (complete code s).rstate = s.rstate := rfl
@[simp] theorem complete_cur (code : ErrCode) (s : State) :
    (complete code s).cur = s.cur := rfl
@[simp] theorem complete_seq (code : ErrCode) (s : State) :
    (complete code s).seq = s.seq := rfl
@[simp] theorem complete_presc (code : ErrCode) (s : State) :
    (complete code s).presc = s.presc := rfl
@[simp] theorem complete_tcount (code : ErrCode) (s : State) :
    (complete code s).tcount = s.tcount := rfl
@[simp] theorem complete_hcount (code : ErrCode) (s : State) :
    (complete code s).hcount = s.hcount := rfl
@[simp] theorem complete_wcount (code : ErrCode) (s : State) :
    (complete code s).wcount = s.wcount := rfl
@[simp] theorem complete_rangeUs (code : ErrCode) (s : State) :
    (complete code s).rangeUs = s.rangeUs := rfl
@[simp] theorem complete_rangeDist (code : ErrCode) (s : State) :
    (complete code s).rangeDist = s.rangeDist := rfl
@[simp] theorem complete_btnLatch (code : ErrCode) (s : State) :
    (complete code s).btnLatch = s.btnLatch := rfl
@[simp] theorem complete_light (code : ErrCode) (s : State) :
    (complete code s).light = s.light := rfl
@[simp] theorem complete_dutyLA (code : ErrCode) (s : State) :
    (complete code s).dutyLA = s.dutyLA := rfl
@[simp] theorem complete_dutyLB (code : ErrCode) (s : State) :
    (complete code s).dutyLB = s.dutyLB := rfl
@[simp] theorem complete_dutyRA (code : ErrCode) (s : State) :
    (complete code s).dutyRA = s.dutyRA := rfl
@[simp] theorem complete_dutyRB (code : ErrCode) (s : State) :
    (complete code s).dutyRB = s.dutyRB := rfl
@[simp] theorem complete_ledMask (code : ErrCode) (s : State) :
    (complete code s).ledMask = s.ledMask := rfl
@[simp] theorem complete_ulBuf (code : ErrCode) (s : State) :
    (complete code s).ulBuf = s.ulBuf := rfl
@[simp] theorem complete_bValid (code : ErrCode) (s : State) :
    (complete code s).bValid = s.bValid := rfl
@[simp] theorem complete_inputs (code : ErrCode) (s : State) :
    (complete code s).inputs = s.inputs := rfl
@[simp] theorem complete_cycle (code : ErrCode) (s : State) :
    (complete code s).cycle = s.cycle := rfl
@[simp] theorem complete_trace (code : ErrCode) (s : State) :
    (complete code s).trace = (s.cycle, .complete code) :: s.trace := rfl

/-! ### raiseErr -/

@[simp] theorem raiseErr_initDone (code : ErrCode) (s : State) :
    (raiseErr code s).initDone = s.initDone := rfl
@[simp] theorem raiseErr_busy (code : ErrCode) (s : State) :
    (raiseErr code s).busy = false := rfl
@[simp] theorem raiseErr_initFailed (code : ErrCode) (s : State) :
    (raiseErr code s).initFailed = s.initFailed := rfl
@[simp] theorem raiseErr_rangeValid (code : ErrCode) (s : State) :
    (raiseErr code s).rangeValid = s.rangeValid := rfl
@[simp] theorem raiseErr_busFault (code : ErrCode) (s : State) :
    (raiseErr code s).busFault = s.busFault := rfl
@[simp] theorem raiseErr_lastErr (code : ErrCode) (s : State) :
    (raiseErr code s).lastErr = code := rfl
@[simp] theorem raiseErr_motorEn (code : ErrCode) (s : State) :
    (raiseErr code s).motorEn = s.motorEn := rfl
@[simp] theorem raiseErr_trig (code : ErrCode) (s : State) :
    (raiseErr code s).trig = s.trig := rfl
@[simp] theorem raiseErr_rstate (code : ErrCode) (s : State) :
    (raiseErr code s).rstate = s.rstate := rfl
@[simp] theorem raiseErr_cur (code : ErrCode) (s : State) :
    (raiseErr code s).cur = s.cur := rfl
@[simp] theorem raiseErr_seq (code : ErrCode) (s : State) :
    (raiseErr code s).seq = s.seq := rfl
@[simp] theorem raiseErr_presc (code : ErrCode) (s : State) :
    (raiseErr code s).presc = s.presc := rfl
@[simp] theorem raiseErr_tcount (code : ErrCode) (s : State) :
    (raiseErr code s).tcount = s.tcount := rfl
@[simp] theorem raiseErr_hcount (code : ErrCode) (s : State) :
    (raiseErr code s).hcount = s.hcount := rfl
@[simp] theorem raiseErr_wcount (code : ErrCode) (s : State) :
    (raiseErr code s).wcount = s.wcount := rfl
@[simp] theorem raiseErr_rangeUs (code : ErrCode) (s : State) :
    (raiseErr code s).rangeUs = s.rangeUs := rfl
@[simp] theorem raiseErr_rangeDist (code : ErrCode) (s : State) :
    (raiseErr code s).rangeDist = s.rangeDist := rfl
@[simp] theorem raiseErr_btnLatch (code : ErrCode) (s : State) :
    (raiseErr code s).btnLatch = s.btnLatch := rfl
@[simp] theorem raiseErr_light (code : ErrCode) (s : State) :
    (raiseErr code s).light = s.light := rfl
@[simp] theorem raiseErr_dutyLA (code : ErrCode) (s : State) :
    (raiseErr code s).dutyLA = s.dutyLA := rfl
@[simp] theorem raiseErr_dutyLB (code : ErrCode) (s : State) :
    (raiseErr code s).dutyLB = s.dutyLB := rfl
@[simp] theorem raiseErr_dutyRA (code : ErrCode) (s : State) :
    (raiseErr code s).dutyRA = s.dutyRA := rfl
@[simp] theorem raiseErr_dutyRB (code : ErrCode) (s : State) :
    (raiseErr code s).dutyRB = s.dutyRB := rfl
@[simp] theorem raiseErr_ledMask (code : ErrCode) (s : State) :
    (raiseErr code s).ledMask = s.ledMask := rfl
@[simp] theorem raiseErr_ulBuf (code : ErrCode) (s : State) :
    (raiseErr code s).ulBuf = s.ulBuf := rfl
@[simp] theorem raiseErr_bValid (code : ErrCode) (s : State) :
    (raiseErr code s).bValid = s.bValid := rfl
@[simp] theorem raiseErr_inputs (code : ErrCode) (s : State) :
    (raiseErr code s).inputs = s.inputs := rfl
@[simp] theorem raiseErr_cycle (code : ErrCode) (s : State) :
    (raiseErr code s).cycle = s.cycle := rfl
@[simp] theorem raiseErr_trace (code : ErrCode) (s : State) :
    (raiseErr code s).trace = (s.cycle, .complete code) :: s.trace := rfl

/-! ### startBus -/

@[simp] theorem startBus_initDone (w : Word) (s : State) :
    (startBus w s).initDone = s.initDone := rfl
@[simp] theorem startBus_busy (w : Word) (s : State) :
    (startBus w s).busy = true := rfl
@[simp] theorem startBus_initFailed (w : Word) (s : State) :
    (startBus w s).initFailed = s.initFailed := rfl
@[simp] theorem startBus_rangeValid (w : Word) (s : State) :
    (startBus w s).rangeValid = s.rangeValid := rfl
@[simp] theorem startBus_busFault (w : Word) (s : State) :
    (startBus w s).busFault = s.busFault := rfl
@[simp] theorem startBus_lastErr (w : Word) (s : State) :
    (startBus w s).lastErr = s.lastErr := rfl
@[simp] theorem startBus_motorEn (w : Word) (s : State) :
    (startBus w s).motorEn = s.motorEn := rfl
@[simp] theorem startBus_trig (w : Word) (s : State) :
    (startBus w s).trig = s.trig := rfl
@[simp] theorem startBus_rstate (w : Word) (s : State) :
    (startBus w s).rstate = s.rstate := rfl
@[simp] theorem startBus_cur (w : Word) (s : State) :
    (startBus w s).cur = w := rfl
@[simp] theorem startBus_seq (w : Word) (s : State) :
    (startBus w s).seq = 0 := rfl
@[simp] theorem startBus_presc (w : Word) (s : State) :
    (startBus w s).presc = s.presc := rfl
@[simp] theorem startBus_tcount (w : Word) (s : State) :
    (startBus w s).tcount = s.tcount := rfl
@[simp] theorem startBus_hcount (w : Word) (s : State) :
    (startBus w s).hcount = s.hcount := rfl
@[simp] theorem startBus_wcount (w : Word) (s : State) :
    (startBus w s).wcount = s.wcount := rfl
@[simp] theorem startBus_rangeUs (w : Word) (s : State) :
    (startBus w s).rangeUs = s.rangeUs := rfl
@[simp] theorem startBus_rangeDist (w : Word) (s : State) :
    (startBus w s).rangeDist = s.rangeDist := rfl
@[simp] theorem startBus_btnLatch (w : Word) (s : State) :
    (startBus w s).btnLatch = s.btnLatch := rfl
@[simp] theorem startBus_light (w : Word) (s : State) :
    (startBus w s).light = s.light := rfl
@[simp] theorem startBus_dutyLA (w : Word) (s : State) :
    (startBus w s).dutyLA = s.dutyLA := rfl
@[simp] theorem startBus_dutyLB (w : Word) (s : State) :
    (startBus w s).dutyLB = s.dutyLB := rfl
@[simp] theorem startBus_dutyRA (w : Word) (s : State) :
    (startBus w s).dutyRA = s.dutyRA := rfl
@[simp] theorem startBus_dutyRB (w : Word) (s : State) :
    (startBus w s).dutyRB = s.dutyRB := rfl
@[simp] theorem startBus_ledMask (w : Word) (s : State) :
    (startBus w s).ledMask = s.ledMask := rfl
@[simp] theorem startBus_ulBuf (w : Word) (s : State) :
    (startBus w s).ulBuf = s.ulBuf := rfl
@[simp] theorem startBus_bValid (w : Word) (s : State) :
    (startBus w s).bValid = true := rfl
@[simp] theorem startBus_inputs (w : Word) (s : State) :
    (startBus w s).inputs = s.inputs := rfl
@[simp] theorem startBus_cycle (w : Word) (s : State) :
    (startBus w s).cycle = s.cycle := rfl
@[simp] theorem startBus_trace (w : Word) (s : State) :
    (startBus w s).trace = s.trace := rfl

/-! ### closeBus -/

@[simp] theorem closeBus_initDone (code : ErrCode) (s : State) :
    (closeBus code s).initDone = s.initDone := rfl
@[simp] theorem closeBus_busy (code : ErrCode) (s : State) :
    (closeBus code s).busy = false := rfl
@[simp] theorem closeBus_initFailed (code : ErrCode) (s : State) :
    (closeBus code s).initFailed = s.initFailed := rfl
@[simp] theorem closeBus_rangeValid (code : ErrCode) (s : State) :
    (closeBus code s).rangeValid = s.rangeValid := rfl
@[simp] theorem closeBus_busFault (code : ErrCode) (s : State) :
    (closeBus code s).busFault = s.busFault := rfl
@[simp] theorem closeBus_lastErr (code : ErrCode) (s : State) :
    (closeBus code s).lastErr = code := rfl
@[simp] theorem closeBus_motorEn (code : ErrCode) (s : State) :
    (closeBus code s).motorEn = s.motorEn := rfl
@[simp] theorem closeBus_trig (code : ErrCode) (s : State) :
    (closeBus code s).trig = s.trig := rfl
@[simp] theorem closeBus_rstate (code : ErrCode) (s : State) :
    (closeBus code s).rstate = s.rstate := rfl
@[simp] theorem closeBus_cur (code : ErrCode) (s : State) :
    (closeBus code s).cur = 0 := rfl
@[simp] theorem closeBus_seq (code : ErrCode) (s : State) :
    (closeBus code s).seq = 0 := rfl
@[simp] theorem closeBus_presc (code : ErrCode) (s : State) :
    (closeBus code s).presc = s.presc := rfl
@[simp] theorem closeBus_tcount (code : ErrCode) (s : State) :
    (closeBus code s).tcount = s.tcount := rfl
@[simp] theorem closeBus_hcount (code : ErrCode) (s : State) :
    (closeBus code s).hcount = s.hcount := rfl
@[simp] theorem closeBus_wcount (code : ErrCode) (s : State) :
    (closeBus code s).wcount = s.wcount := rfl
@[simp] theorem closeBus_rangeUs (code : ErrCode) (s : State) :
    (closeBus code s).rangeUs = s.rangeUs := rfl
@[simp] theorem closeBus_rangeDist (code : ErrCode) (s : State) :
    (closeBus code s).rangeDist = s.rangeDist := rfl
@[simp] theorem closeBus_btnLatch (code : ErrCode) (s : State) :
    (closeBus code s).btnLatch = s.btnLatch := rfl
@[simp] theorem closeBus_light (code : ErrCode) (s : State) :
    (closeBus code s).light = s.light := rfl
@[simp] theorem closeBus_dutyLA (code : ErrCode) (s : State) :
    (closeBus code s).dutyLA = s.dutyLA := rfl
@[simp] theorem closeBus_dutyLB (code : ErrCode) (s : State) :
    (closeBus code s).dutyLB = s.dutyLB := rfl
@[simp] theorem closeBus_dutyRA (code : ErrCode) (s : State) :
    (closeBus code s).dutyRA = s.dutyRA := rfl
@[simp] theorem closeBus_dutyRB (code : ErrCode) (s : State) :
    (closeBus code s).dutyRB = s.dutyRB := rfl
@[simp] theorem closeBus_ledMask (code : ErrCode) (s : State) :
    (closeBus code s).ledMask = s.ledMask := rfl
@[simp] theorem closeBus_ulBuf (code : ErrCode) (s : State) :
    (closeBus code s).ulBuf = s.ulBuf := rfl
@[simp] theorem closeBus_bValid (code : ErrCode) (s : State) :
    (closeBus code s).bValid = false := rfl
@[simp] theorem closeBus_inputs (code : ErrCode) (s : State) :
    (closeBus code s).inputs = s.inputs := rfl
@[simp] theorem closeBus_cycle (code : ErrCode) (s : State) :
    (closeBus code s).cycle = s.cycle := rfl
@[simp] theorem closeBus_trace (code : ErrCode) (s : State) :
    (closeBus code s).trace = (s.cycle, .complete code) :: s.trace := rfl

/-! ### beginCycle -/

@[simp] theorem beginCycle_initDone (s : State) :
    (beginCycle s).initDone = s.initDone := rfl
@[simp] theorem beginCycle_busy (s : State) :
    (beginCycle s).busy = s.busy := rfl
@[simp] theorem beginCycle_initFailed (s : State) :
    (beginCycle s).initFailed = s.initFailed := rfl
@[simp] theorem beginCycle_rangeValid (s : State) :
    (beginCycle s).rangeValid = s.rangeValid := rfl
@[simp] theorem beginCycle_busFault (s : State) :
    (beginCycle s).busFault = s.busFault := rfl
@[simp] theorem beginCycle_lastErr (s : State) :
    (beginCycle s).lastErr = s.lastErr := rfl
@[simp] theorem beginCycle_motorEn (s : State) :
    (beginCycle s).motorEn = s.motorEn := rfl
@[simp] theorem beginCycle_trig (s : State) :
    (beginCycle s).trig = s.trig := rfl
@[simp] theorem beginCycle_rstate (s : State) :
    (beginCycle s).rstate = s.rstate := rfl
@[simp] theorem beginCycle_cur (s : State) :
    (beginCycle s).cur = s.cur := rfl
@[simp] theorem beginCycle_seq (s : State) :
    (beginCycle s).seq = s.seq := rfl
@[simp] theorem beginCycle_presc (s : State) :
    (beginCycle s).presc = s.presc := rfl
@[simp] theorem beginCycle_tcount (s : State) :
    (beginCycle s).tcount = s.tcount := rfl
@[simp] theorem beginCycle_hcount (s : State) :
    (beginCycle s).hcount = s.hcount := rfl
@[simp] theorem beginCycle_wcount (s : State) :
    (beginCycle s).wcount = s.wcount := rfl
@[simp] theorem beginCycle_rangeUs (s : State) :
    (beginCycle s).rangeUs = s.rangeUs := rfl
@[simp] theorem beginCycle_rangeDist (s : State) :
    (beginCycle s).rangeDist = s.rangeDist := rfl
@[simp] theorem beginCycle_btnLatch (s : State) :
    (beginCycle s).btnLatch = s.btnLatch := rfl
@[simp] theorem beginCycle_light (s : State) :
    (beginCycle s).light = s.light := rfl
@[simp] theorem beginCycle_dutyLA (s : State) :
    (beginCycle s).dutyLA = s.dutyLA := rfl
@[simp] theorem beginCycle_dutyLB (s : State) :
    (beginCycle s).dutyLB = s.dutyLB := rfl
@[simp] theorem beginCycle_dutyRA (s : State) :
    (beginCycle s).dutyRA = s.dutyRA := rfl
@[simp] theorem beginCycle_dutyRB (s : State) :
    (beginCycle s).dutyRB = s.dutyRB := rfl
@[simp] theorem beginCycle_ledMask (s : State) :
    (beginCycle s).ledMask = s.ledMask := rfl
@[simp] theorem beginCycle_ulBuf (s : State) :
    (beginCycle s).ulBuf = s.ulBuf := rfl
@[simp] theorem beginCycle_bValid (s : State) :
    (beginCycle s).bValid = s.bValid := rfl
@[simp] theorem beginCycle_inputs (s : State) :
    (beginCycle s).inputs = s.inputs.tail := rfl
@[simp] theorem beginCycle_cycle (s : State) :
    (beginCycle s).cycle = s.cycle + 1 := rfl
@[simp] theorem beginCycle_trace (s : State) :
    (beginCycle s).trace = (s.cycle + 1, .pins (pinLevels s)) :: s.trace := rfl

/-! ### sampleButtons -/

@[simp] theorem sampleButtons_initDone (x : PortInputs) (s : State) :
    (sampleButtons x s).initDone = s.initDone := rfl
@[simp] theorem sampleButtons_busy (x : PortInputs) (s : State) :
    (sampleButtons x s).busy = s.busy := rfl
@[simp] theorem sampleButtons_initFailed (x : PortInputs) (s : State) :
    (sampleButtons x s).initFailed = s.initFailed := rfl
@[simp] theorem sampleButtons_rangeValid (x : PortInputs) (s : State) :
    (sampleButtons x s).rangeValid = s.rangeValid := rfl
@[simp] theorem sampleButtons_busFault (x : PortInputs) (s : State) :
    (sampleButtons x s).busFault = s.busFault := rfl
@[simp] theorem sampleButtons_lastErr (x : PortInputs) (s : State) :
    (sampleButtons x s).lastErr = s.lastErr := rfl
@[simp] theorem sampleButtons_motorEn (x : PortInputs) (s : State) :
    (sampleButtons x s).motorEn = s.motorEn := rfl
@[simp] theorem sampleButtons_trig (x : PortInputs) (s : State) :
    (sampleButtons x s).trig = s.trig := rfl
@[simp] theorem sampleButtons_rstate (x : PortInputs) (s : State) :
    (sampleButtons x s).rstate = s.rstate := rfl
@[simp] theorem sampleButtons_cur (x : PortInputs) (s : State) :
    (sampleButtons x s).cur = s.cur := rfl
@[simp] theorem sampleButtons_seq (x : PortInputs) (s : State) :
    (sampleButtons x s).seq = s.seq := rfl
@[simp] theorem sampleButtons_presc (x : PortInputs) (s : State) :
    (sampleButtons x s).presc = s.presc := rfl
@[simp] theorem sampleButtons_tcount (x : PortInputs) (s : State) :
    (sampleButtons x s).tcount = s.tcount := rfl
@[simp] theorem sampleButtons_hcount (x : PortInputs) (s : State) :
    (sampleButtons x s).hcount = s.hcount := rfl
@[simp] theorem sampleButtons_wcount (x : PortInputs) (s : State) :
    (sampleButtons x s).wcount = s.wcount := rfl
@[simp] theorem sampleButtons_rangeUs (x : PortInputs) (s : State) :
    (sampleButtons x s).rangeUs = s.rangeUs := rfl
@[simp] theorem sampleButtons_rangeDist (x : PortInputs) (s : State) :
    (sampleButtons x s).rangeDist = s.rangeDist := rfl
@[simp] theorem sampleButtons_btnLatch (x : PortInputs) (s : State) :
    (sampleButtons x s).btnLatch = ~~~ x.btnN := rfl
@[simp] theorem sampleButtons_light (x : PortInputs) (s : State) :
    (sampleButtons x s).light = s.light := rfl
@[simp] theorem sampleButtons_dutyLA (x : PortInputs) (s : State) :
    (sampleButtons x s).dutyLA = s.dutyLA := rfl
@[simp] theorem sampleButtons_dutyLB (x : PortInputs) (s : State) :
    (sampleButtons x s).dutyLB = s.dutyLB := rfl
@[simp] theorem sampleButtons_dutyRA (x : PortInputs) (s : State) :
    (sampleButtons x s).dutyRA = s.dutyRA := rfl
@[simp] theorem sampleButtons_dutyRB (x : PortInputs) (s : State) :
    (sampleButtons x s).dutyRB = s.dutyRB := rfl
@[simp] theorem sampleButtons_ledMask (x : PortInputs) (s : State) :
    (sampleButtons x s).ledMask = s.ledMask := rfl
@[simp] theorem sampleButtons_ulBuf (x : PortInputs) (s : State) :
    (sampleButtons x s).ulBuf = s.ulBuf := rfl
@[simp] theorem sampleButtons_bValid (x : PortInputs) (s : State) :
    (sampleButtons x s).bValid = s.bValid := rfl
@[simp] theorem sampleButtons_inputs (x : PortInputs) (s : State) :
    (sampleButtons x s).inputs = s.inputs := rfl
@[simp] theorem sampleButtons_cycle (x : PortInputs) (s : State) :
    (sampleButtons x s).cycle = s.cycle := rfl
@[simp] theorem sampleButtons_trace (x : PortInputs) (s : State) :
    (sampleButtons x s).trace = s.trace := rfl

/-! ### resetEdge -/

@[simp] theorem resetEdge_initDone (s : State) :
    (resetEdge s).initDone = State.reset.initDone := rfl
@[simp] theorem resetEdge_busy (s : State) :
    (resetEdge s).busy = State.reset.busy := rfl
@[simp] theorem resetEdge_initFailed (s : State) :
    (resetEdge s).initFailed = State.reset.initFailed := rfl
@[simp] theorem resetEdge_rangeValid (s : State) :
    (resetEdge s).rangeValid = State.reset.rangeValid := rfl
@[simp] theorem resetEdge_busFault (s : State) :
    (resetEdge s).busFault = State.reset.busFault := rfl
@[simp] theorem resetEdge_lastErr (s : State) :
    (resetEdge s).lastErr = State.reset.lastErr := rfl
@[simp] theorem resetEdge_motorEn (s : State) :
    (resetEdge s).motorEn = State.reset.motorEn := rfl
@[simp] theorem resetEdge_trig (s : State) :
    (resetEdge s).trig = State.reset.trig := rfl
@[simp] theorem resetEdge_rstate (s : State) :
    (resetEdge s).rstate = State.reset.rstate := rfl
@[simp] theorem resetEdge_cur (s : State) :
    (resetEdge s).cur = State.reset.cur := rfl
@[simp] theorem resetEdge_seq (s : State) :
    (resetEdge s).seq = State.reset.seq := rfl
@[simp] theorem resetEdge_presc (s : State) :
    (resetEdge s).presc = State.reset.presc := rfl
@[simp] theorem resetEdge_tcount (s : State) :
    (resetEdge s).tcount = State.reset.tcount := rfl
@[simp] theorem resetEdge_hcount (s : State) :
    (resetEdge s).hcount = State.reset.hcount := rfl
@[simp] theorem resetEdge_wcount (s : State) :
    (resetEdge s).wcount = State.reset.wcount := rfl
@[simp] theorem resetEdge_rangeUs (s : State) :
    (resetEdge s).rangeUs = State.reset.rangeUs := rfl
@[simp] theorem resetEdge_rangeDist (s : State) :
    (resetEdge s).rangeDist = State.reset.rangeDist := rfl
@[simp] theorem resetEdge_btnLatch (s : State) :
    (resetEdge s).btnLatch = State.reset.btnLatch := rfl
@[simp] theorem resetEdge_light (s : State) :
    (resetEdge s).light = State.reset.light := rfl
@[simp] theorem resetEdge_dutyLA (s : State) :
    (resetEdge s).dutyLA = State.reset.dutyLA := rfl
@[simp] theorem resetEdge_dutyLB (s : State) :
    (resetEdge s).dutyLB = State.reset.dutyLB := rfl
@[simp] theorem resetEdge_dutyRA (s : State) :
    (resetEdge s).dutyRA = State.reset.dutyRA := rfl
@[simp] theorem resetEdge_dutyRB (s : State) :
    (resetEdge s).dutyRB = State.reset.dutyRB := rfl
@[simp] theorem resetEdge_ledMask (s : State) :
    (resetEdge s).ledMask = State.reset.ledMask := rfl
@[simp] theorem resetEdge_ulBuf (s : State) :
    (resetEdge s).ulBuf = State.reset.ulBuf := rfl
@[simp] theorem resetEdge_bValid (s : State) :
    (resetEdge s).bValid = State.reset.bValid := rfl
@[simp] theorem resetEdge_inputs (s : State) :
    (resetEdge s).inputs = s.inputs := rfl
@[simp] theorem resetEdge_cycle (s : State) :
    (resetEdge s).cycle = s.cycle := rfl
@[simp] theorem resetEdge_trace (s : State) :
    (resetEdge s).trace = s.trace := rfl

/-! ### initialise -/

@[simp] theorem initialise_initDone (x : PortInputs) (s : State) :
    (initialise x s).initDone = true := by
  unfold initialise; split <;> simp_all
@[simp] theorem initialise_busy (x : PortInputs) (s : State) :
    (initialise x s).busy = (if s.initDone then s.busy else false) := by
  unfold initialise; split <;> simp_all
@[simp] theorem initialise_initFailed (x : PortInputs) (s : State) :
    (initialise x s).initFailed = (if s.initDone then s.initFailed else !x.periphReady) := by
  unfold initialise; split <;> simp_all
@[simp] theorem initialise_rangeValid (x : PortInputs) (s : State) :
    (initialise x s).rangeValid = s.rangeValid := by
  unfold initialise; split <;> simp_all
@[simp] theorem initialise_busFault (x : PortInputs) (s : State) :
    (initialise x s).busFault = s.busFault := by
  unfold initialise; split <;> simp_all
@[simp] theorem initialise_lastErr (x : PortInputs) (s : State) :
    (initialise x s).lastErr = s.lastErr := by
  unfold initialise; split <;> simp_all
@[simp] theorem initialise_motorEn (x : PortInputs) (s : State) :
    (initialise x s).motorEn = s.motorEn := by
  unfold initialise; split <;> simp_all
@[simp] theorem initialise_trig (x : PortInputs) (s : State) :
    (initialise x s).trig = s.trig := by
  unfold initialise; split <;> simp_all
@[simp] theorem initialise_rstate (x : PortInputs) (s : State) :
    (initialise x s).rstate = s.rstate := by
  unfold initialise; split <;> simp_all
@[simp] theorem initialise_cur (x : PortInputs) (s : State) :
    (initialise x s).cur = s.cur := by
  unfold initialise; split <;> simp_all
@[simp] theorem initialise_seq (x : PortInputs) (s : State) :
    (initialise x s).seq = s.seq := by
  unfold initialise; split <;> simp_all
@[simp] theorem initialise_presc (x : PortInputs) (s : State) :
    (initialise x s).presc = s.presc := by
  unfold initialise; split <;> simp_all
@[simp] theorem initialise_tcount (x : PortInputs) (s : State) :
    (initialise x s).tcount = s.tcount := by
  unfold initialise; split <;> simp_all
@[simp] theorem initialise_hcount (x : PortInputs) (s : State) :
    (initialise x s).hcount = s.hcount := by
  unfold initialise; split <;> simp_all
@[simp] theorem initialise_wcount (x : PortInputs) (s : State) :
    (initialise x s).wcount = s.wcount := by
  unfold initialise; split <;> simp_all
@[simp] theorem initialise_rangeUs (x : PortInputs) (s : State) :
    (initialise x s).rangeUs = s.rangeUs := by
  unfold initialise; split <;> simp_all
@[simp] theorem initialise_rangeDist (x : PortInputs) (s : State) :
    (initialise x s).rangeDist = s.rangeDist := by
  unfold initialise; split <;> simp_all
@[simp] theorem initialise_btnLatch (x : PortInputs) (s : State) :
    (initialise x s).btnLatch = s.btnLatch := by
  unfold initialise; split <;> simp_all
@[simp] theorem initialise_light (x : PortInputs) (s : State) :
    (initialise x s).light = s.light := by
  unfold initialise; split <;> simp_all
@[simp] theorem initialise_dutyLA (x : PortInputs) (s : State) :
    (initialise x s).dutyLA = s.dutyLA := by
  unfold initialise; split <;> simp_all
@[simp] theorem initialise_dutyLB (x : PortInputs) (s : State) :
    (initialise x s).dutyLB = s.dutyLB := by
  unfold initialise; split <;> simp_all
@[simp] theorem initialise_dutyRA (x : PortInputs) (s : State) :
    (initialise x s).dutyRA = s.dutyRA := by
  unfold initialise; split <;> simp_all
@[simp] theorem initialise_dutyRB (x : PortInputs) (s : State) :
    (initialise x s).dutyRB = s.dutyRB := by
  unfold initialise; split <;> simp_all
@[simp] theorem initialise_ledMask (x : PortInputs) (s : State) :
    (initialise x s).ledMask = s.ledMask := by
  unfold initialise; split <;> simp_all
@[simp] theorem initialise_ulBuf (x : PortInputs) (s : State) :
    (initialise x s).ulBuf = s.ulBuf := by
  unfold initialise; split <;> simp_all
@[simp] theorem initialise_bValid (x : PortInputs) (s : State) :
    (initialise x s).bValid = s.bValid := by
  unfold initialise; split <;> simp_all
@[simp] theorem initialise_inputs (x : PortInputs) (s : State) :
    (initialise x s).inputs = s.inputs := by
  unfold initialise; split <;> simp_all
@[simp] theorem initialise_cycle (x : PortInputs) (s : State) :
    (initialise x s).cycle = s.cycle := by
  unfold initialise; split <;> simp_all
@[simp] theorem initialise_trace (x : PortInputs) (s : State) :
    (initialise x s).trace = s.trace := by
  unfold initialise; split <;> simp_all

/-! ### statusWrite -/

@[simp] theorem statusWrite_initDone (w : Word) (failing : Bool) (s : State) :
    (statusWrite w failing s).initDone = s.initDone := by
  unfold statusWrite; split <;> rfl
@[simp] theorem statusWrite_busy (w : Word) (failing : Bool) (s : State) :
    (statusWrite w failing s).busy = s.busy := by
  unfold statusWrite; split <;> rfl
@[simp] theorem statusWrite_initFailed (w : Word) (failing : Bool) (s : State) :
    (statusWrite w failing s).initFailed = s.initFailed := by
  unfold statusWrite; split <;> rfl
@[simp] theorem statusWrite_rangeValid (w : Word) (failing : Bool) (s : State) :
    (statusWrite w failing s).rangeValid = s.rangeValid := by
  unfold statusWrite; split <;> rfl
@[simp] theorem statusWrite_busFault (w : Word) (failing : Bool) (s : State) :
    (statusWrite w failing s).busFault = (if w.getLsbD 3 then failing else s.busFault) := by
  unfold statusWrite; split <;> rfl
@[simp] theorem statusWrite_lastErr (w : Word) (failing : Bool) (s : State) :
    (statusWrite w failing s).lastErr = s.lastErr := by
  unfold statusWrite; split <;> rfl
@[simp] theorem statusWrite_motorEn (w : Word) (failing : Bool) (s : State) :
    (statusWrite w failing s).motorEn = s.motorEn := by
  unfold statusWrite; split <;> rfl
@[simp] theorem statusWrite_trig (w : Word) (failing : Bool) (s : State) :
    (statusWrite w failing s).trig = s.trig := by
  unfold statusWrite; split <;> rfl
@[simp] theorem statusWrite_rstate (w : Word) (failing : Bool) (s : State) :
    (statusWrite w failing s).rstate = s.rstate := by
  unfold statusWrite; split <;> rfl
@[simp] theorem statusWrite_cur (w : Word) (failing : Bool) (s : State) :
    (statusWrite w failing s).cur = s.cur := by
  unfold statusWrite; split <;> rfl
@[simp] theorem statusWrite_seq (w : Word) (failing : Bool) (s : State) :
    (statusWrite w failing s).seq = s.seq := by
  unfold statusWrite; split <;> rfl
@[simp] theorem statusWrite_presc (w : Word) (failing : Bool) (s : State) :
    (statusWrite w failing s).presc = s.presc := by
  unfold statusWrite; split <;> rfl
@[simp] theorem statusWrite_tcount (w : Word) (failing : Bool) (s : State) :
    (statusWrite w failing s).tcount = s.tcount := by
  unfold statusWrite; split <;> rfl
@[simp] theorem statusWrite_hcount (w : Word) (failing : Bool) (s : State) :
    (statusWrite w failing s).hcount = s.hcount := by
  unfold statusWrite; split <;> rfl
@[simp] theorem statusWrite_wcount (w : Word) (failing : Bool) (s : State) :
    (statusWrite w failing s).wcount = s.wcount := by
  unfold statusWrite; split <;> rfl
@[simp] theorem statusWrite_rangeUs (w : Word) (failing : Bool) (s : State) :
    (statusWrite w failing s).rangeUs = s.rangeUs := by
  unfold statusWrite; split <;> rfl
@[simp] theorem statusWrite_rangeDist (w : Word) (failing : Bool) (s : State) :
    (statusWrite w failing s).rangeDist = s.rangeDist := by
  unfold statusWrite; split <;> rfl
@[simp] theorem statusWrite_btnLatch (w : Word) (failing : Bool) (s : State) :
    (statusWrite w failing s).btnLatch = s.btnLatch := by
  unfold statusWrite; split <;> rfl
@[simp] theorem statusWrite_light (w : Word) (failing : Bool) (s : State) :
    (statusWrite w failing s).light = s.light := by
  unfold statusWrite; split <;> rfl
@[simp] theorem statusWrite_dutyLA (w : Word) (failing : Bool) (s : State) :
    (statusWrite w failing s).dutyLA = s.dutyLA := by
  unfold statusWrite; split <;> rfl
@[simp] theorem statusWrite_dutyLB (w : Word) (failing : Bool) (s : State) :
    (statusWrite w failing s).dutyLB = s.dutyLB := by
  unfold statusWrite; split <;> rfl
@[simp] theorem statusWrite_dutyRA (w : Word) (failing : Bool) (s : State) :
    (statusWrite w failing s).dutyRA = s.dutyRA := by
  unfold statusWrite; split <;> rfl
@[simp] theorem statusWrite_dutyRB (w : Word) (failing : Bool) (s : State) :
    (statusWrite w failing s).dutyRB = s.dutyRB := by
  unfold statusWrite; split <;> rfl
@[simp] theorem statusWrite_ledMask (w : Word) (failing : Bool) (s : State) :
    (statusWrite w failing s).ledMask = s.ledMask := by
  unfold statusWrite; split <;> rfl
@[simp] theorem statusWrite_ulBuf (w : Word) (failing : Bool) (s : State) :
    (statusWrite w failing s).ulBuf = s.ulBuf := by
  unfold statusWrite; split <;> rfl
@[simp] theorem statusWrite_bValid (w : Word) (failing : Bool) (s : State) :
    (statusWrite w failing s).bValid = s.bValid := by
  unfold statusWrite; split <;> rfl
@[simp] theorem statusWrite_inputs (w : Word) (failing : Bool) (s : State) :
    (statusWrite w failing s).inputs = s.inputs := by
  unfold statusWrite; split <;> rfl
@[simp] theorem statusWrite_cycle (w : Word) (failing : Bool) (s : State) :
    (statusWrite w failing s).cycle = s.cycle := by
  unfold statusWrite; split <;> rfl
@[simp] theorem statusWrite_trace (w : Word) (failing : Bool) (s : State) :
    (statusWrite w failing s).trace = s.trace := by
  unfold statusWrite; split <;> rfl

/-! ### setMotor -/

@[simp] theorem setMotor_initDone (m : Motor) (d : Duty × Duty) (s : State) :
    (setMotor m d s).initDone = s.initDone := by
  cases m <;> rfl
@[simp] theorem setMotor_busy (m : Motor) (d : Duty × Duty) (s : State) :
    (setMotor m d s).busy = s.busy := by
  cases m <;> rfl
@[simp] theorem setMotor_initFailed (m : Motor) (d : Duty × Duty) (s : State) :
    (setMotor m d s).initFailed = s.initFailed := by
  cases m <;> rfl
@[simp] theorem setMotor_rangeValid (m : Motor) (d : Duty × Duty) (s : State) :
    (setMotor m d s).rangeValid = s.rangeValid := by
  cases m <;> rfl
@[simp] theorem setMotor_busFault (m : Motor) (d : Duty × Duty) (s : State) :
    (setMotor m d s).busFault = s.busFault := by
  cases m <;> rfl
@[simp] theorem setMotor_lastErr (m : Motor) (d : Duty × Duty) (s : State) :
    (setMotor m d s).lastErr = s.lastErr := by
  cases m <;> rfl
@[simp] theorem setMotor_motorEn (m : Motor) (d : Duty × Duty) (s : State) :
    (setMotor m d s).motorEn = s.motorEn := by
  cases m <;> rfl
@[simp] theorem setMotor_trig (m : Motor) (d : Duty × Duty) (s : State) :
    (setMotor m d s).trig = s.trig := by
  cases m <;> rfl
@[simp] theorem setMotor_rstate (m : Motor) (d : Duty × Duty) (s : State) :
    (setMotor m d s).rstate = s.rstate := by
  cases m <;> rfl
@[simp] theorem setMotor_cur (m : Motor) (d : Duty × Duty) (s : State) :
    (setMotor m d s).cur = s.cur := by
  cases m <;> rfl
@[simp] theorem setMotor_seq (m : Motor) (d : Duty × Duty) (s : State) :
    (setMotor m d s).seq = s.seq := by
  cases m <;> rfl
@[simp] theorem setMotor_presc (m : Motor) (d : Duty × Duty) (s : State) :
    (setMotor m d s).presc = s.presc := by
  cases m <;> rfl
@[simp] theorem setMotor_tcount (m : Motor) (d : Duty × Duty) (s : State) :
    (setMotor m d s).tcount = s.tcount := by
  cases m <;> rfl
@[simp] theorem setMotor_hcount (m : Motor) (d : Duty × Duty) (s : State) :
    (setMotor m d s).hcount = s.hcount := by
  cases m <;> rfl
@[simp] theorem setMotor_wcount (m : Motor) (d : Duty × Duty) (s : State) :
    (setMotor m d s).wcount = s.wcount := by
  cases m <;> rfl
@[simp] theorem setMotor_rangeUs (m : Motor) (d : Duty × Duty) (s : State) :
    (setMotor m d s).rangeUs = s.rangeUs := by
  cases m <;> rfl
@[simp] theorem setMotor_rangeDist (m : Motor) (d : Duty × Duty) (s : State) :
    (setMotor m d s).rangeDist = s.rangeDist := by
  cases m <;> rfl
@[simp] theorem setMotor_btnLatch (m : Motor) (d : Duty × Duty) (s : State) :
    (setMotor m d s).btnLatch = s.btnLatch := by
  cases m <;> rfl
@[simp] theorem setMotor_light (m : Motor) (d : Duty × Duty) (s : State) :
    (setMotor m d s).light = s.light := by
  cases m <;> rfl
@[simp] theorem setMotor_dutyLA (m : Motor) (d : Duty × Duty) (s : State) :
    (setMotor m d s).dutyLA = (if m = .left then d.1 else s.dutyLA) := by
  cases m <;> rfl
@[simp] theorem setMotor_dutyLB (m : Motor) (d : Duty × Duty) (s : State) :
    (setMotor m d s).dutyLB = (if m = .left then d.2 else s.dutyLB) := by
  cases m <;> rfl
@[simp] theorem setMotor_dutyRA (m : Motor) (d : Duty × Duty) (s : State) :
    (setMotor m d s).dutyRA = (if m = .right then d.1 else s.dutyRA) := by
  cases m <;> rfl
@[simp] theorem setMotor_dutyRB (m : Motor) (d : Duty × Duty) (s : State) :
    (setMotor m d s).dutyRB = (if m = .right then d.2 else s.dutyRB) := by
  cases m <;> rfl
@[simp] theorem setMotor_ledMask (m : Motor) (d : Duty × Duty) (s : State) :
    (setMotor m d s).ledMask = s.ledMask := by
  cases m <;> rfl
@[simp] theorem setMotor_ulBuf (m : Motor) (d : Duty × Duty) (s : State) :
    (setMotor m d s).ulBuf = s.ulBuf := by
  cases m <;> rfl
@[simp] theorem setMotor_bValid (m : Motor) (d : Duty × Duty) (s : State) :
    (setMotor m d s).bValid = s.bValid := by
  cases m <;> rfl
@[simp] theorem setMotor_inputs (m : Motor) (d : Duty × Duty) (s : State) :
    (setMotor m d s).inputs = s.inputs := by
  cases m <;> rfl
@[simp] theorem setMotor_cycle (m : Motor) (d : Duty × Duty) (s : State) :
    (setMotor m d s).cycle = s.cycle := by
  cases m <;> rfl
@[simp] theorem setMotor_trace (m : Motor) (d : Duty × Duty) (s : State) :
    (setMotor m d s).trace = s.trace := by
  cases m <;> rfl

end Sys2Proof.Machine
end

