-- ==== Sys2Proof/Safety.lean ====
section
/-!
DEFINITION. The terms that claims about the block use: the legal states (10_state.md R19 and the invariants of R42), the
host's contract (20_memory.md R48), and the states a run can reach.
-/

namespace Sys2Proof.Machine

/-- The word in CUR is a bus command (R42 (b)). -/
def curIsBus (w : Word) : Bool := !(curTxns w).isEmpty

/-- The word in CUR is RANGE (R42 (b)). -/
def curIsRange (w : Word) : Bool := w == encode .range

/-- A duty or a light in its legal range (R42 (f)). -/
def dutyLegal (d : Duty) : Bool := d.toNat ≤ 0x4000

/-- A motor's duty pair (R42 (g)): both 0x0000, or at least one of them 0x4000. -/
def pairLegal (a b : Duty) : Bool := (a == 0 && b == 0) || a == fullDuty || b == fullDuty

/-- The outputs and the buffers as they are at reset (R42 (h)): MOTOR_EN, TRIG, all duties, all lights, all UL_BUF bytes,
and LED_MASK. -/
def outputsAtReset (s : State) : Bool :=
  !s.motorEn && !s.trig && s.dutyLA == 0 && s.dutyLB == 0 && s.dutyRA == 0 && s.dutyRB == 0 &&
    s.light == Vector.replicate 4 0 && s.ulBuf == Vector.replicate 18 0 && s.ledMask == 0x3FFFF

/-- R42, (a) to (i), word for word. -/
structure State.Invariants (s : State) : Prop where
  /-- (a) -/
  beforeInit : s.initDone = false → s.busy = true ∧ s.cur = 0 ∧ s.rstate = .idle
  /-- (b) -/
  busyCommand : s.busy = true → s.initDone = true → curIsBus s.cur = true ∨ curIsRange s.cur = true
  /-- (c) -/
  busValid : s.bValid = true ↔ (s.busy = true ∧ curIsBus s.cur = true)
  /-- (d) -/
  ranging : s.rstate ≠ .idle ↔ (s.busy = true ∧ curIsRange s.cur = true)
  /-- (e) -/
  trigger : s.trig = true ↔ s.rstate = .triggered
  /-- (f), the duty registers -/
  dutyRange : dutyLegal s.dutyLA ∧ dutyLegal s.dutyLB ∧ dutyLegal s.dutyRA ∧ dutyLegal s.dutyRB
  /-- (f), the lights -/
  lightRange : ∀ i : Fin 4, dutyLegal s.light[i]
  /-- (g) -/
  dutyPairs : pairLegal s.dutyLA s.dutyLB ∧ pairLegal s.dutyRA s.dutyRB
  /-- (h) -/
  failedInit : s.initFailed = true → outputsAtReset s = true
  /-- (i) -/
  errorCode : s.lastErr.bits.toNat ≤ 5

/-- The legal values of R19 that R42 does not repeat, with what R21, R36 and R117 say of the hidden elements, and the two
facts about initialisation from which R42 (h) follows (R154, R156, R157). -/
structure State.Legal (p : Config.Params) (s : State) : Prop where
  /-- CUR is 0 outside a command (R21, R89, R121). -/
  idleCur : s.busy = false → s.cur = 0
  /-- SEQ is the index of a transaction of CUR (R21). -/
  seqInList : s.bValid = true → s.seq.toNat < (curTxns s.cur).length
  /-- SEQ is 0 to 2 (R19). -/
  seqRange : s.seq.toNat ≤ 2
  /-- PRESC is 0 to P_CLK_PER_US - 1 (R19). -/
  prescRange : s.presc.toNat ≤ p.clkPerUsPred.toNat
  /-- PRESC is 0 while RSTATE = IDLE (R117). -/
  prescIdle : s.rstate = .idle → s.presc = 0
  /-- TCOUNT is 0 to 9 (R19). -/
  tcountRange : s.tcount.toNat ≤ 9
  /-- Nothing has failed and the outputs are at reset before the initialisation step (R154, R156). -/
  freshBeforeInit : s.initDone = false → s.initFailed = false ∧ outputsAtReset s = true
  /-- A block whose initialisation failed runs no command (R157). -/
  failedIdle : s.initFailed = true → s.busy = false

/-- The legal states: R42 and R19. -/
structure State.Inv (p : Config.Params) (s : State) : Prop where
  invariants : s.Invariants
  legal : s.Legal p

/-- The request levels of a cycle are within the host's contract: not both a read and a write (R48). -/
def requestLegal (x : PortInputs) : Bool := !(x.hRd && x.hWr)

/-- The host holds the request of cycle x unchanged in the next cycle y where its transfer did not complete (R48). A premise
about the host, not about the block. -/
def hostHolds (x y : PortInputs) (s : State) : Bool :=
  transferCompletes x s || !(x.hRd || x.hWr) ||
    (y.hRd == x.hRd && y.hWr == x.hWr && y.hAddr == x.hAddr && y.hWdata == x.hWdata)

/-- The block is ready for a command: initialised, with nothing in flight. -/
structure State.Idle (s : State) : Prop where
  initDone : s.initDone = true
  notBusy : s.busy = false
  noTxn : s.bValid = false
  noRanging : s.rstate = .idle

/-- The states that a run from the reset state reaches, with any draws of the environment in any cycle. -/
inductive Reachable (p : Config.Params) : State → Prop where
  | atReset : Reachable p State.reset
  | afterCycle {s t : State} (x : PortInputs) : Reachable p s → cycleWith p x s = .next t → Reachable p t

/-! ### Draws of the environment over several cycles -/

/-- A cycle in which the collaborator answers with result `ok`, everything else quiet (R88). -/
def busAnswer (ok : Bool) : PortInputs := { PortInputs.quiet with bDone := true, bOk := ok }

/-- One transaction answered after `wait` cycles without an answer: the answer comes `wait + 1` cycles after the transaction
is first presented (R169). -/
def answeredAfter (ok : Bool) (wait : Nat) : List PortInputs :=
  List.replicate wait PortInputs.quiet ++ [busAnswer ok]

/-- One transaction after another, each answered OK after its own wait (R169). -/
def answersOk (waits : List Nat) : List PortInputs := waits.flatMap (answeredAfter true)

/-- One microsecond with the echo line at the level e: P_CLK_PER_US cycles, the last of them the tick (R117). -/
def echoLevel (p : Config.Params) (e : Bool) : List PortInputs :=
  List.replicate p.clkPerUs { PortInputs.quiet with echo := e }

/-- The echo line over several microseconds. -/
def echoLevels (p : Config.Params) (es : List Bool) : List PortInputs := es.flatMap (echoLevel p)

/-- The bus transactions of a history, oldest first: register byte, payload and result (R65). -/
def busLog : List (Nat × Event) → List (Byte × List Byte × Bool)
  | [] => []
  | (_, .bus _ r bytes ok) :: rest => busLog rest ++ [(r, bytes, ok)]
  | _ :: rest => busLog rest

end Sys2Proof.Machine
end

