-- ==== Sys2Proof/Laws/Ops.lean ====
section
/-!
SUPPORT. For each shared operation of the machine, what it can do when it answers a next state: one inversion lemma each, which
later proofs cite instead of unfolding the operation.
-/

namespace Sys2Proof.Machine

/-! ### Outcomes -/

@[simp] theorem andThen_next (s : State) (k : State → Result) : andThen (.next s) k = k s := rfl
@[simp] theorem andThen_fault (f : Fault) (k : State → Result) : andThen (.fault f) k = .fault f := rfl
@[simp] theorem andThen_refused (r : Refusal) (k : State → Result) : andThen (.refused r) k = .refused r := rfl

theorem andThen_eq_next_iff {o : Result} {k : State → Result} {t : State} :
    andThen o k = .next t ↔ ∃ s, o = .next s ∧ k s = .next t := by
  cases o <;> simp [andThen]

/-! ### Acceptance -/

theorem whenReady_of_ready {s : State} (h : s.initFailed = false) (k : State → State) :
    whenReady s k = .next (k s) := by simp [whenReady, h]

theorem whenReady_of_failed {s : State} (h : s.initFailed = true) (k : State → State) :
    whenReady s k = .next (raiseErr .notReady s) := by simp [whenReady, h]

/-! ### The bus sequencer (R89) -/

/-- What the sequencer can do in a cycle: nothing without a request, wait for the answer, or take the answer. -/
theorem busCycle_cases {p : Config.Params} {x : PortInputs} {s t : State} (h : busCycle p x s = .next t) :
    (s.bValid = false ∧ t = s) ∨
    (s.bValid = true ∧ x.bDone = false ∧ (currentTxn s).isSome ∧ t = s) ∨
    (∃ f, s.bValid = true ∧ x.bDone = true ∧ currentTxn s = some f ∧ t = answerTxn p x.bOk f s) := by
  unfold busCycle at h
  split at h
  next hv =>
    split at h
    · cases h
    next f hf =>
      cases hd : x.bDone <;> simp only [hd, Bool.false_eq_true, if_false, if_true] at h <;> cases h
      · exact .inr (.inl ⟨hv, rfl, by simp [hf], rfl⟩)
      · exact .inr (.inr ⟨f, hv, rfl, hf, rfl⟩)
  next hv => cases h; exact .inl ⟨by simpa using hv, rfl⟩

/-- What an answer can do: end the command with BUS, go on to the next transaction, or end it with OK. -/
theorem answerTxn_cases (p : Config.Params) (ok : Bool) (f : TxnForm) (s : State) :
    (ok = false ∧ answerTxn p ok f s =
      closeBus .bus { record (busEvent p f s.ulBuf false) s with busFault := true }) ∨
    (ok = true ∧ s.seq.toNat + 1 < (curTxns s.cur).length ∧ answerTxn p ok f s =
      { record (busEvent p f s.ulBuf true) s with seq := s.seq + 1 }) ∨
    (ok = true ∧ (curTxns s.cur).length ≤ s.seq.toNat + 1 ∧ answerTxn p ok f s =
      closeBus .ok (record (busEvent p f s.ulBuf true) s)) := by
  cases ok
  · exact .inl ⟨rfl, rfl⟩
  · by_cases hl : s.seq.toNat + 1 < (curTxns s.cur).length
    · exact .inr (.inl ⟨rfl, hl, by simp [answerTxn, hl]⟩)
    · exact .inr (.inr ⟨rfl, by omega, by simp [answerTxn, hl]⟩)

/-- A cycle without a request leaves the sequencer alone. -/
theorem busCycle_of_not_valid {s : State} (h : s.bValid = false) (p : Config.Params) (x : PortInputs) :
    busCycle p x s = .next s := by simp [busCycle, h]

/-! ### The ranging timer (R117 to R122) -/

/-- What timeout_step can do: nothing without a timeout, end the measurement, or count. -/
theorem timeoutStep_cases (p : Config.Params) (s : State) :
    (p.echoTimeoutUs = 0 ∧ timeoutStep p s = s) ∨
    (p.echoTimeoutUs ≠ 0 ∧ p.echoTimeoutUs ≤ sat32 (s.wcount.toNat + 1) ∧ timeoutStep p s =
      complete .noEcho { s with rstate := .idle, presc := 0, cur := 0, trig := false }) ∨
    (p.echoTimeoutUs ≠ 0 ∧ ¬ p.echoTimeoutUs ≤ sat32 (s.wcount.toNat + 1) ∧ timeoutStep p s =
      { s with wcount := sat32 (s.wcount.toNat + 1) }) := by
  unfold timeoutStep
  split
  · exact .inl ⟨‹_›, rfl⟩
  · by_cases h : p.echoTimeoutUs ≤ sat32 (s.wcount.toNat + 1)
    · exact .inr (.inl ⟨‹_›, h, by simp [h]⟩)
    · exact .inr (.inr ⟨‹_›, h, by simp [h]⟩)

/-- What the ranging timer can do in a cycle: nothing in IDLE, count the prescaler, or take a tick in one of its states. -/
theorem rangeCycle_cases (p : Config.Params) (x : PortInputs) (s : State) :
    (s.rstate = .idle ∧ rangeCycle p x s = s) ∨
    (s.rstate ≠ .idle ∧ isTick p s = false ∧ rangeCycle p x s = { s with presc := s.presc + 1 }) ∨
    (s.rstate = .triggered ∧ isTick p s = true ∧ rangeCycle p x s = tickTriggered { s with presc := 0 }) ∨
    (s.rstate = .awaitStart ∧ isTick p s = true ∧
      rangeCycle p x s = tickAwaitStart p x.echo { s with presc := 0 }) ∨
    (s.rstate = .awaitEnd ∧ isTick p s = true ∧
      rangeCycle p x s = tickAwaitEnd p x.echo { s with presc := 0 }) := by
  cases hr : s.rstate <;> cases ht : isTick p s <;> simp [rangeCycle, rangeTick, hr, ht]

/-- In IDLE the ranging timer does nothing. -/
theorem rangeCycle_of_idle {s : State} (h : s.rstate = .idle) (p : Config.Params) (x : PortInputs) :
    rangeCycle p x s = s := by simp [rangeCycle, h]

/-! ### The initialisation step (R156) -/

theorem initialise_of_done {s : State} (h : s.initDone = true) (x : PortInputs) : initialise x s = s := by
  simp [initialise, h]

/-! ### The host port (R48 to R52) -/

/-- h_ready is 0 in every cycle with rst = 1 (R52, R155). -/
theorem hReady_of_rst {x : PortInputs} (h : x.rst = true) (s : State) : hReady x s = some false := by
  simp [hReady, h]

theorem transferCompletes_cases {x : PortInputs} {s : State} (h : transferCompletes x s = true) :
    x.rst = false ∧ ((x.hRd = true ∧ x.hWr = false) ∨
      (x.hRd = false ∧ x.hWr = true ∧ (x.hAddr = RegName.cmd.addr → s.busy = false))) := by
  unfold transferCompletes hReady at h
  cases hx : x.rst <;> cases hr : x.hRd <;> cases hw : x.hWr <;> cases hb : s.busy <;> simp_all

/-- What the host port can do in a cycle: nothing, a read, the acceptance of a command word, or a register write. -/
theorem hostCycle_cases {x : PortInputs} {s0 s t : State} (h : hostCycle x s0 s = .next t) :
    (transferCompletes x s0 = false ∧ t = s) ∨
    (transferCompletes x s0 = true ∧ x.hRd = true ∧
      t = record (.hostRead (byteOffset x.hAddr) (memRead x.hAddr s0)) s) ∨
    (transferCompletes x s0 = true ∧ x.hRd = false ∧ x.hAddr = RegName.cmd.addr ∧ s0.busy = false ∧
      acceptWord x.hWdata (record (.hostWrite (byteOffset x.hAddr) x.hWdata) s) = .next t) ∨
    (transferCompletes x s0 = true ∧ x.hRd = false ∧ x.hAddr ≠ RegName.cmd.addr ∧
      t = registerWrite x.hAddr x.hWdata (txnFails x s0)
        (record (.hostWrite (byteOffset x.hAddr) x.hWdata) s)) := by
  unfold hostCycle at h
  split at h
  next hc =>
    split at h
    next hr => cases h; exact .inr (.inl ⟨hc, hr, rfl⟩)
    next hr =>
      have hr : x.hRd = false := by simpa using hr
      split at h
      next ha =>
        refine .inr (.inr (.inl ⟨hc, hr, ha, ?_, h⟩))
        rcases transferCompletes_cases hc with ⟨-, ⟨h1, -⟩ | ⟨-, -, hb⟩⟩
        · simp [hr] at h1
        · exact hb ha
      next ha => cases h; exact .inr (.inr (.inr ⟨hc, hr, ha, rfl⟩))
  next hc => cases h; exact .inl ⟨by simpa using hc, rfl⟩

/-- What the acceptance of a word can do: run the command it decodes to, or report NOT_READY or ILLEGAL. -/
theorem acceptWord_cases {w : Word} {s t : State} (h : acceptWord w s = .next t) :
    (∃ i, decode w = some i ∧ exec i (record (.accept w) s) = .next t) ∨
    (decode w = none ∧
      t = raiseErr (if s.initFailed then .notReady else .illegal) (record (.accept w) s)) := by
  unfold acceptWord at h
  split at h
  next i hi => exact .inl ⟨i, hi, h⟩
  next hi => cases h; exact .inr ⟨hi, rfl⟩

/-! ### One cycle -/

/-- What the units can do in a cycle outside reset. -/
theorem unitsCycle_eq_next {p : Config.Params} {x : PortInputs} {s t : State} (h : unitsCycle p x s = .next t) :
    ∃ s1, busCycle p x (sampleButtons x (beginCycle s)) = .next s1 ∧ t = rangeCycle p x (initialise x s1) := by
  rcases andThen_eq_next_iff.1 h with ⟨s1, h1, h2⟩
  cases h2
  exact ⟨s1, h1, rfl⟩

/-- What a cycle can do: the reset edge, or the units and then the host port. -/
theorem cycleWith_cases {p : Config.Params} {x : PortInputs} {s t : State} (h : cycleWith p x s = .next t) :
    requestLegal x = true ∧
    ((x.rst = true ∧ t = resetEdge (beginCycle s)) ∨
     (x.rst = false ∧ ∃ s1, busCycle p x (sampleButtons x (beginCycle s)) = .next s1 ∧
        hostCycle x s (rangeCycle p x (initialise x s1)) = .next t)) := by
  unfold cycleWith at h
  split at h
  · cases h
  next hq =>
    refine ⟨by simp only [requestLegal, Bool.not_eq_true']; exact Bool.eq_false_iff.2 hq, ?_⟩
    split at h
    next hr => cases h; exact .inl ⟨hr, rfl⟩
    next hr =>
      rcases andThen_eq_next_iff.1 h with ⟨s2, h2, h3⟩
      rcases unitsCycle_eq_next h2 with ⟨s1, h1, rfl⟩
      exact .inr ⟨by simpa using hr, s1, h1, h3⟩

end Sys2Proof.Machine
end

