-- ==== Sys2Proof/Machine/Assembler.lean ====
section
/-!
DEFINITION. The assembler of 30_encoding.md R81: one source line, as its mnemonic and operands, to one command word. The
spelling of numbers and the reading of text are left to the reader of the source line (log 13).
-/

namespace Sys2Proof.Machine

/-- A Q2.14 operand: a decimal real `digits` x 10^-`places`, or `#<raw>`, a 16-bit value placed unchecked (R81). -/
inductive AsmQ where
  | decimal (digits : Int) (places : Nat)
  | raw (v : Duty)
deriving DecidableEq, Repr

/-- The commands that take no operand (R81). -/
inductive AsmOp0 where
  | ledReset | ledEnable | ledDisable | ledOutput | btnLightsClear | motorForward | motorBackward | motorStop | range
  | ulClear | ulShow
deriving DecidableEq, Repr

/-- A source line of R81. -/
inductive AsmLine where
  /-- A mnemonic with no operand. -/
  | op0 (op : AsmOp0)
  /-- `LED_SET_MASK <mask>`. -/
  | ledSetMask (mask : Nat)
  /-- `UL_SET <r>, <g>, <b>`. -/
  | ulSet (r g b : Nat)
  /-- `BTN_LIGHT <btn>, <q>`. -/
  | btnLight (btn : Button) (q : AsmQ)
  /-- `MOTOR_SET <m>, <q>`. -/
  | motorSet (motor : Motor) (q : AsmQ)
  /-- `.word <w>`: the word verbatim. -/
  | word (w : Word)
deriving DecidableEq, Repr

/-- The command of a line with no operand. -/
def AsmOp0.instr : AsmOp0 → Instr
  | .ledReset => .ledReset
  | .ledEnable => .ledEnable
  | .ledDisable => .ledDisable
  | .ledOutput => .ledOutput
  | .btnLightsClear => .btnLightsClear
  | .motorForward => .motorForward
  | .motorBackward => .motorBackward
  | .motorStop => .motorStop
  | .range => .range
  | .ulClear => .ulClear
  | .ulShow => .ulShow

/-- The integer q x 16384 of a decimal operand q = digits x 10^-places that is an exact multiple of 2^-14 and lies in
[lo / 16384, 1.0]; otherwise an assembler error: the assembler never rounds (R81). -/
def exactQ (lo digits : Int) (places : Nat) : Option Int :=
  if (digits * 16384) % (10 ^ places : Nat) = 0 ∧ lo ≤ digits * 16384 / (10 ^ places : Nat) ∧
      digits * 16384 / (10 ^ places : Nat) ≤ 16384 then
    some (digits * 16384 / (10 ^ places : Nat))
  else none

/-- The field of a Q2.14 operand: the 16-bit two's complement of q x 16384, or the raw value (R81). `lo` is the least
legal integer: 0 for an intensity, -16384 for a speed. -/
def asmField (lo : Int) : AsmQ → Option Duty
  | .decimal digits places => (exactQ lo digits places).map (BitVec.ofInt 16)
  | .raw v => some v

/-- The word of a source line; `none` is an assembler error (R81). -/
def assemble : AsmLine → Option Word
  | .op0 op => some (encode op.instr)
  | .ledSetMask mask => if mask ≤ 0x3FFFF then some (encode (.ledSetMask (BitVec.ofNat 18 mask))) else none
  | .ulSet r g b =>
    if r ≤ 255 ∧ g ≤ 255 ∧ b ≤ 255 then
      some (encode (.ulSet (BitVec.ofNat 8 r) (BitVec.ofNat 8 g) (BitVec.ofNat 8 b)))
    else none
  | .btnLight btn q => (asmField 0 q).map fun v => encode (.btnLight btn v)
  | .motorSet motor q => (asmField (-16384) q).map fun v => encode (.motorSet motor v)
  | .word w => some w

/-! ### Pseudo-instructions that stand for one command (R83) -/

/-- `MOTOR_BRAKE <m>` is `MOTOR_SET <m>, 0.0`. -/
def motorBrake (m : Motor) : AsmLine := .motorSet m (.decimal 0 0)

/-- `BTN_LIGHT_OFF <btn>` is `BTN_LIGHT <btn>, 0.0`. -/
def btnLightOff (btn : Button) : AsmLine := .btnLight btn (.decimal 0 0)

/-- `LED_MASK_ALL` is `LED_SET_MASK 0x3FFFF`. -/
def ledMaskAll : AsmLine := .ledSetMask 0x3FFFF

end Sys2Proof.Machine
end

