-- ==== Sys2Proof/Machine/HostProgram.lean ====
section
/-!
DEFINITION. The host of 30_encoding.md R82, an agent beside the block that drives its register port: a program of lines over
eight scratch registers, the pseudo-instructions of R83, and the boot and re-synchronisation sequences of
70_reset_and_hazards.md R158 and R163. A line that makes no transfer takes one cycle in which the host presents no request
(DESIGN CHOICE, log 10).
-/

namespace Sys2Proof.Machine

/-- The value a `WR` line writes: an immediate or a scratch register (R82). -/
inductive HostSource where
  | imm (v : Word)
  | reg (t : Fin 8)
deriving DecidableEq, Repr

/-- A line of a host program (R82). A label is the index of the line it stands on. -/
inductive HostLine where
  /-- A command line: MemWrite(0x00, 4, its word). -/
  | command (w : Word)
  /-- `RD t, REG`. -/
  | rd (t : Fin 8) (reg : RegName)
  /-- `WR REG, v`. -/
  | wr (reg : RegName) (v : HostSource)
  /-- `ANDI t, u, imm`. -/
  | andi (t u : Fin 8) (imm : Word)
  /-- `BNEZ t, label`. -/
  | bnez (t : Fin 8) (label : Nat)
  /-- `BEQZ t, label`. -/
  | beqz (t : Fin 8) (label : Nat)
  /-- `HALT`. -/
  | halt
deriving DecidableEq, Repr

/-- The host: the index of its line and its scratch registers t0 to t7 (R82). -/
structure HostState where
  line : Nat
  t : Vector Word 8
deriving DecidableEq, Repr

/-- The line the host is on; past the last line the host has halted. -/
def hostLine (prog : List HostLine) (h : HostState) : HostLine := prog.getD h.line .halt

/-- The value of a `WR` line's source. -/
def HostSource.value (h : HostState) : HostSource → Word
  | .imm v => v
  | .reg t => h.t[t]

/-- The input levels of a cycle with the host's request for its line (R48, R82): held until the transfer completes. -/
def driveRequest (prog : List HostLine) (h : HostState) (x : PortInputs) : PortInputs :=
  match hostLine prog h with
  | .command w => { x with hRd := false, hWr := true, hAddr := RegName.cmd.addr, hWdata := w }
  | .rd _ r => { x with hRd := true, hWr := false, hAddr := r.addr, hWdata := 0 }
  | .wr r v => { x with hRd := false, hWr := true, hAddr := r.addr, hWdata := v.value h }
  | .andi _ _ _ => { x with hRd := false, hWr := false, hAddr := 0, hWdata := 0 }
  | .bnez _ _ => { x with hRd := false, hWr := false, hAddr := 0, hWdata := 0 }
  | .beqz _ _ => { x with hRd := false, hWr := false, hAddr := 0, hWdata := 0 }
  | .halt => { x with hRd := false, hWr := false, hAddr := 0, hWdata := 0 }

/-- The host goes to the next line. -/
def hostNext (h : HostState) : HostState := { h with line := h.line + 1 }

/-- The host after a cycle in which its transfer completed or not and a read returned the given value (R82). A transfer that
stalls holds the host on its line. -/
def hostAdvance (prog : List HostLine) (completes : Bool) (rdata : Option Word) (h : HostState) : HostState :=
  match hostLine prog h with
  | .command _ => if completes then hostNext h else h
  | .rd t _ =>
    match rdata with
    | some v => hostNext { h with t := h.t.set t v }
    | none => h
  | .wr _ _ => if completes then hostNext h else h
  | .andi t u imm => hostNext { h with t := h.t.set t (h.t[u] &&& imm) }
  | .bnez t label => if h.t[t] = 0 then hostNext h else { h with line := label }
  | .beqz t label => if h.t[t] = 0 then { h with line := label } else hostNext h
  | .halt => h

/-- One cycle of the host and the block together, with the other inputs (reset, bus answers, pins) given by x. -/
def systemCycle (p : Config.Params) (prog : List HostLine) (x : PortInputs) (h : HostState) (s : State) :
    HostState × Result :=
  let y := driveRequest prog h x
  (hostAdvance prog (transferCompletes y s) (hRdata y s) h, cycleWith p y s)

/-! ### Pseudo-instructions over several lines (R83); `here` is the index of the first line of the expansion. -/

/-- `WAIT_IDLE`; it clobbers t7. -/
def waitIdle (here : Nat) : List HostLine := [.rd 7 .status, .andi 7 7 1, .bnez 7 here]

/-- `CLR_BUS_FAULT`. -/
def clrBusFault : HostLine := .wr .status (.imm 0x8)

/-- `RANGE_WAIT <t>`. -/
def rangeWait (here : Nat) (t : Fin 8) : List HostLine :=
  .command (encode .range) :: (waitIdle (here + 1) ++ [.rd t .rangeUs])

/-- WAIT_IDLE, then a branch to `fail` unless LAST_ERR is OK. -/
def waitOk (here fail : Nat) : List HostLine :=
  waitIdle here ++ [.rd 7 .status, .andi 7 7 0xF0, .bnez 7 fail]

/-- The boot sequence after the reset edge (R158, steps 2 to 5): lines 0 to 20, the halt of success on line 20 and the halt
of a failure on line 21. What the host does when a check fails or a command does not complete OK the spec leaves open: here it
halts without a retry, DESIGN CHOICE (log 15). -/
def bootProgram : List HostLine :=
  waitIdle 0 ++ [.rd 0 .status, .andi 0 0 2, .bnez 0 21] ++
  (.command (encode .ledReset) :: waitOk 7 21) ++
  (.command (encode (.ledSetMask 0x3FFFF)) :: waitOk 14 21) ++ [.halt, .halt]

/-- The re-synchronisation after a BUS error (R163): the intended mask, the values and the latch, the intended enable, each
completing OK, then the clear of BUS_FAULT on line 21 and the halt of success on line 22. The values go out by UL_SHOW where
`useShow` is set and else by LED_OUTPUT: R163 leaves the host the choice, and so does the argument. What the host does when one
of the commands does not complete OK the spec leaves open: here it halts on line 23, without a retry and with BUS_FAULT not
cleared, DESIGN CHOICE (log 15). -/
def resyncProgram (mask : ChannelMask) (useShow enable : Bool) : List HostLine :=
  (.command (encode (.ledSetMask mask)) :: waitOk 1 23) ++
  (.command (encode (if useShow then .ulShow else .ledOutput)) :: waitOk 8 23) ++
  (.command (encode (if enable then .ledEnable else .ledDisable)) :: waitOk 15 23) ++
  [clrBusFault, .halt, .halt]

end Sys2Proof.Machine
end

