-- ==== Sys2Proof/Certificates/Slice0/Obligations.lean ====
section
/-!
DEFINITION. The statements about the block, in the order of OBLIGATIONS.json.
-/

open Sys2Proof Sys2Proof.Machine

/-! ### Encoding and decoding (30_encoding.md) -/

/-- Decoding the word of a command gives the command back, for every command with every operand, in range or not (R68
to R76). -/
def Obligations.DecodeReturnsEncodedCommand : Prop :=
  ∀ i : Instr, decode (encode i) = some i

/-- A word that decodes is the word of the command it decodes to, so no two words are one command (R66 to R76). -/
def Obligations.EncodeReturnsDecodedWord : Prop :=
  ∀ (w : Word) (i : Instr), decode w = some i → encode i = w

/-- R77: the ILLEGAL words are exactly those with one of the 241 unassigned opcodes and those with an assigned opcode and a
reserved bit set; at acceptance (INIT_FAILED = 0, R136) such a word completes at once with ILLEGAL and has no other effect. -/
def Obligations.IllegalWordsAreUnassignedOrReserved : Prop :=
  let unassigned : Nat → Bool := fun op =>
    op ≤ 0x0F || (0x15 ≤ op && op ≤ 0x1F) || (0x22 ≤ op && op ≤ 0x2F) || (0x34 ≤ op && op ≤ 0x3F) ||
      (0x41 ≤ op && op ≤ 0x4F) || 0x53 ≤ op
  let reservedSet : Word → Bool := fun w =>
    let op := (w.extractLsb' 24 8).toNat
    if op = 0x50 then false
    else if op = 0x13 ∨ op = 0x20 then w.extractLsb' 18 6 != 0
    else if op = 0x30 then w.extractLsb' 17 7 != 0
    else w.extractLsb' 0 24 != 0
  ((List.range 256).filter unassigned).length = 241 ∧
  (∀ w : Word, decode w = none ↔
    unassigned (w.extractLsb' 24 8).toNat = true ∨ reservedSet w = true) ∧
  (∀ (w : Word) (s : State), decode w = none → s.initFailed = false →
    ∃ tr, acceptWord w s = .next { s with lastErr := .illegal, busy := false, trace := tr })

/-- R76: the row whose fixed bits agree with the word gives the command, a word that no row takes is ILLEGAL, at most one row
takes a word because the rows have distinct opcodes that every mask covers, and operand ranges are no part of decoding. -/
def Obligations.DecodeIsTheUniqueRow : Prop :=
  (∀ (w : Word) (r : OpcodeRow), r ∈ opcodeTable → w &&& r.mask = r.value → decode w = some (r.build w)) ∧
  (∀ w : Word, (∀ r ∈ opcodeTable, w &&& r.mask ≠ r.value) → decode w = none) ∧
  (∀ r ∈ opcodeTable, r.mask &&& 0xFF000000#32 = 0xFF000000#32) ∧
  (opcodeTable.map fun r => r.value.extractLsb' 24 8).Nodup ∧
  (∀ (w : Word) (j k : Fin opcodeTable.length),
    (opcodeTable[j]).takes w = true → (opcodeTable[k]).takes w = true → j = k) ∧
  (∀ (m : Motor) (v : Duty), ∃ w, decode w = some (.motorSet m v)) ∧
  (∀ (btn : Button) (v : Duty), ∃ w, decode w = some (.btnLight btn v))

/-- The worked encodings, row for row, which the spec derives (30_encoding.md, R84): the word of each source line, and
what it decodes to. The cycle count and the history are the model's own fields (logs 2 and 5). -/
def Obligations.WorkedEncodings : Prop :=
  assemble (.ledSetMask 0x3FFFF) = some 0x1303FFFF#32 ∧
  assemble (.ulSet 10 20 30) = some 0x500A141E#32 ∧
  assemble (.motorSet .left (.decimal 10 1)) = some 0x30004000#32 ∧
  assemble (.motorSet .left (.decimal (-10) 1)) = some 0x3000C000#32 ∧
  assemble (.motorSet .right (.decimal (-25) 2)) = some 0x3001F000#32 ∧
  assemble (.motorSet .right (.decimal 5 1)) = some 0x30012000#32 ∧
  assemble (.btnLight .x (.decimal 5 1)) = some 0x20022000#32 ∧
  assemble (.btnLight .y (.decimal 10 1)) = some 0x20034000#32 ∧
  assemble (.op0 .range) = some 0x40000000#32 ∧
  assemble (.op0 .ledOutput) = some 0x14000000#32 ∧
  assemble (.word 0x10000001#32) = some 0x10000001#32 ∧ decode 0x10000001#32 = none ∧
  assemble (.motorSet .left (.raw 0x4001)) = some 0x30004001#32 ∧
  decode 0x30004001#32 = some (.motorSet .left 0x4001) ∧
  (∀ s : State, s.initFailed = false →
    exec (.motorSet .left 0x4001) s = .next { s with
      lastErr := .operand, busy := false, trace := (s.cycle, .complete .operand) :: s.trace })

/-- R81: the assembler never rounds. A MOTOR_SET line with the decimal speed digits x 10^-places that assembles gives the
command whose integer speed is exactly 16384 times that speed, and it is a legal speed; a line outside [-1.0, 1.0] does not
assemble. -/
def Obligations.AssemblerNeverRounds : Prop :=
  ∀ (m : Motor) (digits : Int) (places : Nat),
    (∀ w, assemble (.motorSet m (.decimal digits places)) = some w →
      ∃ v : Duty, decode w = some (.motorSet m v) ∧ v.toInt * 10 ^ places = digits * 16384 ∧
        speedFieldLegal v = true) ∧
    (digits < -(10 ^ places) ∨ 10 ^ places < digits → assemble (.motorSet m (.decimal digits places)) = none)

/-- The two readings of a legal operand agree: the words of R110 and R74 and the integer ranges of R108 and R104. -/
def Obligations.OperandRangesAgree : Prop :=
  ∀ v : Duty, (speedInRange v = true ↔ speedFieldLegal v = true) ∧
    (intensityInRange v = true ↔ intensityFieldLegal v = true)

/-! ### The step (20_memory.md) -/

/-- A step runs the decoded command: when the host writes to CMD a word that decodes to i, the block being idle and
the cycle outside reset, the step is exec of i at the state in which the cycle has begun (counted, its draw taken from
the queue, its output levels recorded), the buttons are sampled, and the completed write and the acceptance are
recorded (R51, R65, R101). The queue of draws, the cycle count and the history are the model's own fields, DESIGN
CHOICE (logs 1, 2 and 5). -/
def Obligations.StepRunsDecodedCommand : Prop :=
  ∀ (s : State) (i : Instr), s.Idle → s.pins.rst = false → s.pins.hRd = false → s.pins.hWr = true →
    s.pins.hAddr = 0 → decode s.pins.hWdata = some i →
    step s = exec i { s with
      btnLatch := ~~~ s.pins.btnN
      inputs := s.inputs.tail
      cycle := s.cycle + 1
      trace := (s.cycle + 1, .accept s.pins.hWdata) :: (s.cycle + 1, .hostWrite 0 s.pins.hWdata) ::
        (s.cycle + 1, .pins (pinLevels s)) :: s.trace }

/-- R51, the stall: a CMD write while BUSY = 1 does not complete, and the cycle is the one in which the host requests
nothing. -/
def Obligations.CommandWriteStallsWhileBusy : Prop :=
  ∀ (p : Config.Params) (x : PortInputs) (s : State), x.rst = false → x.hRd = false → x.hWr = true → x.hAddr = 0 →
    s.busy = true →
    hReady x s = some false ∧ cycleWith p x s = cycleWith p { x with hWr := false } s

/-- R49: outside reset a read completes in its cycle, returns the register built from the state at the start of the cycle, and
has no side effect: but for the history (log 2), the cycle is the one in which the host requests nothing. -/
def Obligations.HostReadHasNoSideEffect : Prop :=
  ∀ (p : Config.Params) (x : PortInputs) (s : State), x.rst = false → x.hRd = true → x.hWr = false →
    hReady x s = some true ∧ hRdata x s = some (memRead x.hAddr s) ∧
    ∃ history : State → List (Nat × Event),
      cycleWith p x s = andThen (cycleWith p { x with hRd := false } s) fun t =>
        .next { t with trace := history t }

/-- R52: while rst = 1, h_ready = 0 for every request, the idle one among them, and no transfer completes. -/
def Obligations.NoTransferDuringReset : Prop :=
  ∀ (x : PortInputs) (s : State), x.rst = true →
    hReady x s = some false ∧ transferCompletes x s = false ∧ hRdata x s = none

/-- R25: the fields of STATUS and its reserved bits, its reset value, and a host write to it: bit 3 clears BUS_FAULT
except in a cycle in which a transaction fails, where BUS_FAULT is set; every other written bit is ignored. The values
of LAST_ERR and RSTATE are spelled out (R40, R41): OK, ILLEGAL, OPERAND, BUS, NO_ECHO and NOT_READY are 0 to 5, and
IDLE, TRIGGERED, AWAIT_START and AWAIT_END are 0 to 3. -/
def Obligations.StatusRegister : Prop :=
  (∀ s : State, let w := memRead 1 s
    w.getLsbD 0 = s.busy ∧ w.getLsbD 1 = s.initFailed ∧ w.getLsbD 2 = s.rangeValid ∧ w.getLsbD 3 = s.busFault ∧
    w.getLsbD 8 = s.motorEn ∧ w.getLsbD 9 = s.trig ∧ w.extractLsb' 12 20 = 0 ∧
    w.extractLsb' 4 4 = (match s.lastErr with
      | .ok => 0#4 | .illegal => 1#4 | .operand => 2#4 | .bus => 3#4 | .noEcho => 4#4 | .notReady => 5#4) ∧
    w.extractLsb' 10 2 = (match s.rstate with
      | .idle => 0#2 | .triggered => 1#2 | .awaitStart => 2#2 | .awaitEnd => 3#2)) ∧
  memRead 1 State.reset = 1#32 ∧
  (∀ (p : Config.Params) (x : PortInputs) (s : State), x.rst = false → x.hRd = false → x.hWr = true → x.hAddr = 1 →
    ∃ history : State → List (Nat × Event),
      cycleWith p x s = andThen (cycleWith p { x with hWr := false } s) fun t =>
        .next { t with
          busFault := if x.hWdata.getLsbD 3 then (s.bValid && x.bDone && !x.bOk) else t.busFault
          trace := history t })

/-- R24, R26 to R31: what a read of each register gives, its reserved bits with it. -/
def Obligations.RegisterReads : Prop :=
  ∀ s : State,
    memRead 0 s = 0 ∧
    (memRead 2 s).extractLsb' 0 4 = s.btnLatch ∧ (memRead 2 s).extractLsb' 4 28 = 0 ∧
    memRead 3 s = s.rangeUs ∧ memRead 4 s = s.rangeDist ∧
    (memRead 5 s).extractLsb' 0 16 = s.dutyLA ∧ (memRead 5 s).extractLsb' 16 16 = s.dutyLB ∧
    (memRead 6 s).extractLsb' 0 16 = s.dutyRA ∧ (memRead 6 s).extractLsb' 16 16 = s.dutyRB ∧
    (memRead 7 s).extractLsb' 0 16 = s.light[0] ∧ (memRead 7 s).extractLsb' 16 16 = s.light[1] ∧
    (memRead 8 s).extractLsb' 0 16 = s.light[2] ∧ (memRead 8 s).extractLsb' 16 16 = s.light[3] ∧
    (memRead 9 s).extractLsb' 0 18 = s.ledMask ∧ (memRead 9 s).extractLsb' 18 14 = 0

/-- R32, the packing: UL_BUF[c] is byte c mod 4 of the register at offset 0x28 + 4 x floor(c/4), and bits [31:16] of UL_BUF4
read 0. -/
def Obligations.UnderlightRegistersPackLittleEndian : Prop :=
  ∀ s : State,
    (∀ c : Fin 18, (memRead (BitVec.ofNat 6 (10 + c.val / 4)) s).extractLsb' (8 * (c.val % 4)) 8 = s.ulBuf[c]) ∧
    (memRead 14 s).extractLsb' 16 16 = 0

/-- R33: the unmapped offsets read 0, a write to them completes and is ignored, and the reserved bits of the mapped registers
read 0 and ignore writes. -/
def Obligations.UnmappedOffsetsReadZero : Prop :=
  (∀ (a : BitVec 6) (s : State), 15 ≤ a.toNat → memRead a s = 0) ∧
  (∀ (p : Config.Params) (x : PortInputs) (s : State), x.rst = false → x.hRd = false → x.hWr = true →
    2 ≤ x.hAddr.toNat → hReady x s = some true ∧
    ∃ history : State → List (Nat × Event),
      cycleWith p x s = andThen (cycleWith p { x with hWr := false } s) fun t => .next { t with trace := history t }) ∧
  (∀ s : State, (memRead 1 s).extractLsb' 12 20 = 0 ∧ (memRead 2 s).extractLsb' 4 28 = 0 ∧
    (memRead 9 s).extractLsb' 18 14 = 0 ∧ (memRead 14 s).extractLsb' 16 16 = 0) ∧
  (∀ (v w : Word) (failing : Bool) (s : State), v.getLsbD 3 = w.getLsbD 3 →
    registerWrite 1 v failing s = registerWrite 1 w failing s)

/-! ### Reset, initialisation and the invariants (70_reset_and_hazards.md, 10_state.md) -/

/-- R154: an edge with rst = 1 gives every state element its reset value, whatever ran and whatever the other inputs (within
the host's contract, R48); no completion and no transaction is recorded, only the output levels of the cycle. The queue, the
cycle count and the history are the model's own fields and go on (logs 1 and 2). -/
def Obligations.ResetEdgeGivesResetValues : Prop :=
  (∀ (p : Config.Params) (x : PortInputs) (s : State), requestLegal x = true → x.rst = true →
    ∃ (q : List PortInputs) (n : Nat) (tr : List (Nat × Event)),
      cycleWith p x s = .next { State.reset with inputs := q, cycle := n, trace := tr } ∧
      ∀ e ∈ tr, e ∈ s.trace ∨ ∃ levels, e.2 = .pins levels) ∧
  State.reset.busy = true ∧ State.reset.initDone = false ∧ State.reset.ledMask = 0x3FFFF ∧
  State.reset.rstate = .idle ∧
  (let r := State.reset
   r.initFailed = false ∧ r.rangeValid = false ∧ r.busFault = false ∧ r.lastErr.bits = 0 ∧ r.motorEn = false ∧
   r.trig = false ∧ r.cur = 0 ∧ r.seq = 0 ∧ r.presc = 0 ∧ r.tcount = 0 ∧ r.hcount = 0 ∧ r.wcount = 0 ∧
   r.rangeUs = 0 ∧ r.rangeDist = 0 ∧ r.btnLatch = 0 ∧ (∀ k : Fin 4, r.light[k] = 0) ∧
   r.dutyLA = 0 ∧ r.dutyLB = 0 ∧ r.dutyRA = 0 ∧ r.dutyRB = 0 ∧ (∀ c : Fin 18, r.ulBuf[c] = 0) ∧ r.bValid = false)

/-- R156: the first cycle after reset. STATUS reads 0x00000001 in it and a CMD write stalls; its edge is the initialisation
step, at which the buttons are sampled too and no transaction is issued; afterwards STATUS reads 0x00000000, or 0x00000002
when periph_ready was 0. Nothing else of the block changes. -/
def Obligations.InitialisationStep : Prop :=
  ∀ (p : Config.Params) (x : PortInputs) (q : List PortInputs) (n : Nat) (tr : List (Nat × Event)),
    requestLegal x = true → x.rst = false →
    let s := { State.reset with inputs := q, cycle := n, trace := tr }
    memRead 1 s = 1#32 ∧
    (x.hRd = false → x.hWr = true → x.hAddr = 0 → hReady x s = some false) ∧
    ∃ (q' : List PortInputs) (n' : Nat) (tr' : List (Nat × Event)),
      cycleWith p x s = .next { s with
        initDone := true, initFailed := !x.periphReady, busy := false, btnLatch := ~~~ x.btnN
        inputs := q', cycle := n', trace := tr' } ∧
      busLog tr' = busLog tr ∧
      ∀ t, cycleWith p x s = .next t → memRead 1 t = if x.periphReady then 0#32 else 2#32

/-- R135: while INIT_FAILED = 1 every accepted word, legal or not, completes with NOT_READY and has no other effect, and no
cycle outside reset clears INIT_FAILED. The cycle count and the history are the model's own fields (logs 2 and 5). -/
def Obligations.FailedInitialisationAnswersNotReady : Prop :=
  (∀ (w : Word) (s : State), s.initFailed = true →
    acceptWord w s = .next { s with
      lastErr := .notReady, busy := false
      trace := (s.cycle, .complete .notReady) :: (s.cycle, .accept w) :: s.trace }) ∧
  (∀ (p : Config.Params) (x : PortInputs) (s t : State), x.rst = false → s.initDone = true → s.initFailed = true →
    cycleWith p x s = .next t → t.initFailed = true)

/-- The reset state is legal: the invariants (a) to (i) that the spec derives (10_state.md, R42) and the ranges of R19. -/
def Obligations.ResetStateIsLegal : Prop :=
  ∀ p : Config.Params, State.reset.Inv p

/-- Every step keeps the legal states: the invariants (a) to (i) that the spec derives (10_state.md, R42) and the ranges of
R19, whatever the parameters and whatever the environment draws. -/
def Obligations.StepKeepsLegalStates : Prop :=
  (∀ (p : Config.Params) (x : PortInputs) (s t : State), s.Inv p → cycleWith p x s = .next t → t.Inv p) ∧
  (∀ s t : State, s.Inv Config.params → step s = .next t → t.Inv Config.params)

/-- Every reachable state satisfies the invariants (a) to (i) that the spec derives (10_state.md, R42): "Every reachable state
satisfies all of these". -/
def Obligations.ReachableStatesSatisfyInvariants : Prop :=
  ∀ (p : Config.Params) (s : State), Reachable p s → s.Invariants

/-- A legal state never stops: with a request within the host's contract the cycle answers a next state (R133, R48). -/
def Obligations.LegalStatesNeverStop : Prop :=
  ∀ (p : Config.Params) (x : PortInputs) (s : State), s.Inv p → requestLegal x = true →
    ∃ t, cycleWith p x s = .next t

/-- No command stops: every command answers a next state in every state (R133). -/
def Obligations.EveryCommandAnswersNext : Prop :=
  ∀ (i : Instr) (s : State), ∃ t, exec i s = .next t

/-! ### The commands at acceptance -/

/-- LED_RESET, LED_ENABLE, LED_DISABLE, LED_OUTPUT and UL_SHOW: acceptance starts the bus with the command's own word and
changes nothing else (R89, R92 to R94, R96, R131). -/
def Obligations.BusCommandsWithoutOperandStart : Prop :=
  ∀ s : State, s.initFailed = false →
    exec .ledReset s = .next { s with cur := 0x10000000, seq := 0, bValid := true, busy := true } ∧
    exec .ledEnable s = .next { s with cur := 0x11000000, seq := 0, bValid := true, busy := true } ∧
    exec .ledDisable s = .next { s with cur := 0x12000000, seq := 0, bValid := true, busy := true } ∧
    exec .ledOutput s = .next { s with cur := 0x14000000, seq := 0, bValid := true, busy := true } ∧
    exec .ulShow s = .next { s with cur := 0x52000000, seq := 0, bValid := true, busy := true }

/-- LED_SET_MASK: LED_MASK takes the mask, whatever the bus does later, and the bus starts; nothing else changes (R89,
R95). -/
def Obligations.LedSetMaskStarts : Prop :=
  ∀ (mask : ChannelMask) (s : State), s.initFailed = false →
    exec (.ledSetMask mask) s = .next { s with
      ledMask := mask, cur := 0x13000000#32 ||| mask.zeroExtend 32, seq := 0, bValid := true, busy := true }

/-- UL_SET and UL_CLEAR: the buffer is written at acceptance, position p at bytes 3p, 3p+1 and 3p+2, and the bus starts;
nothing else changes (R89, R128 to R130). -/
def Obligations.UnderlightCommandsStart : Prop :=
  ∀ (r g b : Byte) (s : State), s.initFailed = false →
    (∃ buf : Vector Byte 18,
      exec (.ulSet r g b) s = .next { s with
        ulBuf := buf
        cur := 0x50000000#32 ||| (r.zeroExtend 32 <<< 16) ||| (g.zeroExtend 32 <<< 8) ||| b.zeroExtend 32
        seq := 0, bValid := true, busy := true } ∧
      ∀ q : Fin 6, buf[3 * q.val]? = some r ∧ buf[3 * q.val + 1]? = some g ∧ buf[3 * q.val + 2]? = some b) ∧
    (∃ buf : Vector Byte 18,
      exec .ulClear s = .next { s with
        ulBuf := buf, cur := 0x51000000, seq := 0, bValid := true, busy := true } ∧
      ∀ c : Fin 18, buf[c] = 0)

/-- BTN_LIGHT with a legal intensity sets the one light and completes OK; with I > 0x4000 it completes with OPERAND;
nothing else changes in either case (R104). The buttons A, B, X and Y have the BTN field values 0, 1, 2 and 3 (R73)
and the lights 0, 1, 2 and 3 (R39). The cycle count and the history are the model's own fields (logs 2 and 5). -/
def Obligations.BtnLightSetsOneLight : Prop :=
  ∀ (btn : Button) (n : Fin 4) (v : Duty) (s : State), s.initFailed = false →
    (btn, n) ∈ [(Button.a, (0 : Fin 4)), (.b, 1), (.x, 2), (.y, 3)] →
    decode (0x20#8 ++ 0#6 ++ BitVec.ofNat 2 n.val ++ v) = some (.btnLight btn v) ∧
    (v.toNat ≤ 0x4000 →
      ∃ l : Vector Duty 4,
        exec (.btnLight btn v) s = .next { s with
          light := l, lastErr := .ok, busy := false, trace := (s.cycle, .complete .ok) :: s.trace } ∧
        ∀ k : Fin 4, l[k] = if k = n then v else s.light[k]) ∧
    (0x4000 < v.toNat →
      exec (.btnLight btn v) s = .next { s with
        lastErr := .operand, busy := false, trace := (s.cycle, .complete .operand) :: s.trace })

/-- BTN_LIGHTS_CLEAR sets all four lights to 0 at one edge and completes OK; nothing else changes (R105). The cycle count and
the history are the model's own fields (logs 2 and 5). -/
def Obligations.BtnLightsClearTurnsAllOff : Prop :=
  ∀ s : State, s.initFailed = false →
    ∃ l : Vector Duty 4,
      exec .btnLightsClear s = .next { s with
        light := l, lastErr := .ok, busy := false, trace := (s.cycle, .complete .ok) :: s.trace } ∧
      ∀ k : Fin 4, l[k] = 0

/-- MOTOR_SET with a legal speed asserts the enable, gives the selected motor dual(s_int) and completes OK; out of range it
completes with OPERAND, not even MOTOR_EN changed; the other motor and everything else stay (R110). The cycle count and the
history are the model's own fields (logs 2 and 5). -/
def Obligations.MotorSetDrivesOneMotor : Prop :=
  ∀ (v : Duty) (s : State), s.initFailed = false →
    (-16384 ≤ v.toInt → v.toInt ≤ 16384 →
      exec (.motorSet .left v) s = .next { s with
        motorEn := true, dutyLA := (dual v.toInt).1, dutyLB := (dual v.toInt).2
        lastErr := .ok, busy := false, trace := (s.cycle, .complete .ok) :: s.trace } ∧
      exec (.motorSet .right v) s = .next { s with
        motorEn := true, dutyRA := (dual v.toInt).1, dutyRB := (dual v.toInt).2
        lastErr := .ok, busy := false, trace := (s.cycle, .complete .ok) :: s.trace }) ∧
    (v.toInt < -16384 ∨ 16384 < v.toInt → ∀ m : Motor,
      exec (.motorSet m v) s = .next { s with
        lastErr := .operand, busy := false, trace := (s.cycle, .complete .operand) :: s.trace })

/-- R109: the duty pair of a legal speed; both duties lie in 0x0000 to 0x4000 and are exact (this last clause the spec
derives). -/
def Obligations.DualDutyMapping : Prop :=
  ∀ n : Int, -16384 ≤ n → n ≤ 16384 →
    (n > 0 → (dual n).1 = 0x4000 ∧ ((dual n).2.toNat : Int) = 0x4000 - n) ∧
    (n < 0 → ((dual n).1.toNat : Int) = 0x4000 + n ∧ (dual n).2 = 0x4000) ∧
    (n = 0 → dual n = (0x4000, 0x4000)) ∧
    (dual n).1.toNat ≤ 0x4000 ∧ (dual n).2.toNat ≤ 0x4000

/-- MOTOR_FORWARD, MOTOR_BACKWARD and MOTOR_STOP: the enable and all four duties at one edge, complete OK, nothing else
changed (R111 to R113). The cycle count and the history are the model's own fields (logs 2 and 5). -/
def Obligations.FixedSpeedCommands : Prop :=
  ∀ s : State, s.initFailed = false →
    exec .motorForward s = .next { s with
      motorEn := true, dutyLA := 0x4000, dutyLB := 0x0000, dutyRA := 0x4000, dutyRB := 0x0000
      lastErr := .ok, busy := false, trace := (s.cycle, .complete .ok) :: s.trace } ∧
    exec .motorBackward s = .next { s with
      motorEn := true, dutyLA := 0x0000, dutyLB := 0x4000, dutyRA := 0x0000, dutyRB := 0x4000
      lastErr := .ok, busy := false, trace := (s.cycle, .complete .ok) :: s.trace } ∧
    exec .motorStop s = .next { s with
      motorEn := true, dutyLA := 0x4000, dutyLB := 0x4000, dutyRA := 0x4000, dutyRB := 0x4000
      lastErr := .ok, busy := false, trace := (s.cycle, .complete .ok) :: s.trace }

/-- RANGE at acceptance: the trigger rises, the counters restart, RANGE_VALID falls, and the previous result stays in RANGE_US
and RANGE_DIST (R118, D37). -/
def Obligations.RangeStarts : Prop :=
  ∀ s : State, s.initFailed = false →
    exec .range s = .next { s with
      rangeValid := false, trig := true, presc := 0, tcount := 0, hcount := 0, wcount := 0
      rstate := .triggered, cur := 0x40000000, busy := true }

/-- The spec's own inference in R111 and R113: a fixed-speed command is the two MOTOR_SETs of its speed, one after the
other. The states agree but for the history, which is the model's own field (log 2). -/
def Obligations.FixedSpeedIsTwoMotorSets : Prop :=
  ∀ (s : State) (i : Instr) (v : Duty), s.initFailed = false →
    (i, v) ∈ [(Instr.motorForward, (0x4000 : Duty)), (.motorBackward, 0xC000), (.motorStop, 0)] →
    ∃ t u w, exec i s = .next t ∧ exec (.motorSet .left v) s = .next u ∧ exec (.motorSet .right v) u = .next w ∧
      t = { w with trace := t.trace }

/-- R141: the priority of the errors at acceptance. An accepted word reports NOT_READY, else ILLEGAL, else OPERAND; a command
that passes the three checks completes OK at once or runs with LAST_ERR as it was. -/
def Obligations.AcceptanceErrorPriority : Prop :=
  ∀ (w : Word) (s t : State), acceptWord w s = .next t →
    t.lastErr =
      (if s.initFailed then .notReady
       else match decode w with
         | none => .illegal
         | some i =>
           if i.wellFormed = false then .operand else if t.busy then s.lastErr else .ok) ∧
    (s.initFailed = false → ∀ i, decode w = some i → i.wellFormed = true →
      (t.busy = true ↔ isBusCommand i = true ∨ i = .range))

/-- The spec's own inference of R142, the errors at acceptance are precise: in an idle block the state after NOT_READY,
ILLEGAL or OPERAND differs from the state before only in LAST_ERR (and in the history). -/
def Obligations.AcceptanceErrorsArePrecise : Prop :=
  ∀ (w : Word) (s t : State), s.busy = false → acceptWord w s = .next t →
    (s.initFailed = true ∨ decode w = none ∨ ∃ i, decode w = some i ∧ i.wellFormed = false) →
    t = { s with lastErr := t.lastErr, trace := t.trace }

/-! ### The LED mapper and the bus (40_led_driver.md) -/

/-- R85: the table has 256 entries, every entry is the rounded power of the formula, and no power is within 0.002 of a
rounding tie, so the rounding mode does not matter (this last clause the spec derives). -/
def Obligations.GammaTableIsRoundedPower : Prop :=
  lutTable.length = 256 ∧
  ∀ v : Byte, let power : ℝ := (255 : ℝ) ^ (((v.toNat : ℝ) - 1) / 255)
    ((lut v).toNat : ℤ) = round power ∧ |power - ((lut v).toNat : ℝ)| ≤ 498 / 1000

/-- The properties (a) to (g) of the table that the spec derives (40_led_driver.md, R86). -/
def Obligations.GammaTableProperties : Prop :=
  (∀ buf : Vector Byte 18, ∀ c : Fin 18, (laneMap buf)[c.val]? = some (lut buf[c])) ∧ lutTable.length = 256 ∧
  lut 0 = 1 ∧ lut 1 = 1 ∧ lut 255 = 250 ∧
  (∀ v : Fin 255, (lut (BitVec.ofNat 8 v.val)).toNat ≤ (lut (BitVec.ofNat 8 (v.val + 1))).toNat) ∧
  (∀ v : Fin 256, lut (BitVec.ofNat 8 v.val) ≠ 0) ∧
  lutTable.dedup.length = 124 ∧
  (∀ v : Fin 256, v.val ≤ 19 → lut (BitVec.ofNat 8 v.val) = 1) ∧
  (∀ v : Fin 256, 20 ≤ v.val → v.val ≤ 43 → lut (BitVec.ofNat 8 v.val) = 2)

/-- R91: the three bytes of the packed mask, channel 6g+k at bit k of byte g, bits 7:6 of every byte 0. -/
def Obligations.MaskPacking : Prop :=
  ∀ m : ChannelMask, ∃ b0 b1 b2 : Byte, pack3 m = [b0, b1, b2] ∧
    (∀ k : Fin 6, b0.getLsbD k.val = m.getLsbD k.val ∧ b1.getLsbD k.val = m.getLsbD (6 + k.val) ∧
      b2.getLsbD k.val = m.getLsbD (12 + k.val)) ∧
    (∀ byte ∈ [b0, b1, b2], byte.getLsbD 6 = false ∧ byte.getLsbD 7 = false)

/-- The transactions of each bus command, register byte and payload: the six forms of R90 in the order of R92 to R96 and R129
to R131. Channel 0 is first in the PWM payload, each byte the gamma level of its buffer byte (R87). The other commands issue
none. -/
def Obligations.TransactionsOfEachCommand : Prop :=
  ∀ (p : Config.Params) (buf : Vector Byte 18) (mask : ChannelMask) (r g b : Byte),
    let sent : Instr → List (Byte × List Byte) := fun i => (txns i).map fun f => (f.reg p, f.payload p buf)
    let update : Byte × List Byte := (p.regUpdate, [0xFF])
    let on : Byte × List Byte := (p.regEnableOutput, [p.enOn])
    let off : Byte × List Byte := (p.regEnableOutput, [p.enOff])
    ∃ pwm : List Byte, pwm.length = 18 ∧ (∀ c : Fin 18, pwm[c.val]? = some (lut buf[c])) ∧
      sent .ledReset = [(p.regReset, [0xFF])] ∧ sent .ledEnable = [on] ∧ sent .ledDisable = [off] ∧
      sent (.ledSetMask mask) = [(p.regEnableChannels, pack3 mask), update] ∧
      sent .ledOutput = [(p.regPwm, pwm), update] ∧
      sent (.ulSet r g b) = [(p.regPwm, pwm), update, on] ∧ sent .ulClear = [off] ∧
      sent .ulShow = [(p.regPwm, pwm), update, on] ∧
      (∀ i, isBusCommand i = false ↔
        (i = .btnLightsClear ∨ i = .motorForward ∨ i = .motorBackward ∨ i = .motorStop ∨ i = .range ∨
          (∃ btn v, i = .btnLight btn v) ∨ ∃ m v, i = .motorSet m v))

/-- R37: every output port is a copy of the state; the bus fields carry the transaction in flight, byte k of the payload at
bits [8k+7:8k] of b_data with 0 above, and are 0 while B_VALID = 0. -/
def Obligations.OutputPortsCopyState : Prop :=
  ∀ (p : Config.Params) (s : State),
    let o := outputs p s
    o.bValid = s.bValid ∧ o.pins.motorEn = s.motorEn ∧ o.pins.trig = s.trig ∧ o.pins.mLa = s.dutyLA ∧
    o.pins.mLb = s.dutyLB ∧ o.pins.mRa = s.dutyRA ∧ o.pins.mRb = s.dutyRB ∧ o.pins.blDuty = s.light ∧
    (s.bValid = false → o.bAddr = 0 ∧ o.bReg = 0 ∧ o.bLen = 0 ∧ o.bData = 0) ∧
    (∀ f, s.bValid = true → currentTxn s = some f →
      o.bAddr = p.busAddr ∧ o.bReg = f.reg p ∧ o.bLen.toNat = (f.payload p s.ulBuf).length ∧
      (∀ k : Fin 18, o.bData.extractLsb' (8 * k.val) 8 = (f.payload p s.ulBuf).getD k.val 0))

/-- R89, the sequencer in one cycle with nothing else going on: no answer, a failure, a success with transactions
left, a success of the last one. A failure ends the command with BUS and leaves the rest unissued. The button latch
samples in each (R101). The queue of draws, the cycle count and the history are the model's own fields, DESIGN CHOICE
(logs 1, 2 and 5). -/
def Obligations.BusSequencerCycle : Prop :=
  ∀ (p : Config.Params) (x : PortInputs) (s : State) (f : TxnForm),
    x.rst = false → x.hRd = false → x.hWr = false → s.initDone = true → s.rstate = .idle → s.bValid = true →
    currentTxn s = some f →
    let s1 := { s with
      btnLatch := ~~~ x.btnN, inputs := s.inputs.tail, cycle := s.cycle + 1
      trace := (s.cycle + 1, .pins (pinLevels s)) :: s.trace }
    let e : Bool → Nat × Event := fun ok =>
      (s.cycle + 1, .bus p.busAddr (f.reg p) (f.payload p s.ulBuf) ok)
    (x.bDone = false → cycleWith p x s = .next s1) ∧
    (x.bDone = true → x.bOk = false → cycleWith p x s = .next { s1 with
      busFault := true, bValid := false, cur := 0, seq := 0, lastErr := .bus, busy := false
      trace := (s.cycle + 1, .complete .bus) :: e false :: s1.trace }) ∧
    (x.bDone = true → x.bOk = true → s.seq.toNat + 1 < (curTxns s.cur).length → cycleWith p x s = .next { s1 with
      seq := s.seq + 1, trace := e true :: s1.trace }) ∧
    (x.bDone = true → x.bOk = true → (curTxns s.cur).length ≤ s.seq.toNat + 1 → cycleWith p x s = .next { s1 with
      bValid := false, cur := 0, seq := 0, lastErr := .ok, busy := false
      trace := (s.cycle + 1, .complete .ok) :: e true :: s1.trace })

/-- R148: b_done and b_ok are ignored while b_valid = 0. -/
def Obligations.AnswersIgnoredWithoutRequest : Prop :=
  ∀ (p : Config.Params) (x : PortInputs) (s : State) (d k : Bool), s.bValid = false →
    cycleWith p x s = cycleWith p { x with bDone := d, bOk := k } s

/-- The spec's own inference of R169: a bus command of n transactions, accepted by an idle block and answered OK after
the waits of the list, is busy until the last answer and then complete: LAST_ERR = OK, its transactions in the order
of its list are what the bus saw, and BUS_FAULT and the result of the ranging are as before. The cycle count and the
history are the model's own fields (log 2). -/
def Obligations.BusCommandCompletes : Prop :=
  ∀ (p : Config.Params) (s : State) (i : Instr) (waits : List Nat),
    s.Idle → s.initFailed = false → isBusCommand i = true → waits.length = (txns i).length →
    let draws := cmdWrite (encode i) :: answersOk waits
    (∀ k, 0 < k → k < draws.length → ∃ u, runCycles p (draws.take k) s = .next u ∧ u.busy = true ∧
      u.lastErr = s.lastErr) ∧
    ∃ t, runCycles p draws s = .next t ∧ t.Idle ∧ t.cur = 0 ∧ t.seq = 0 ∧ t.lastErr = .ok ∧
      t.busFault = s.busFault ∧ t.cycle = s.cycle + 1 + (waits.map (· + 1)).sum ∧
      t.rangeValid = s.rangeValid ∧ t.rangeUs = s.rangeUs ∧ t.rangeDist = s.rangeDist ∧
      busLog t.trace = busLog s.trace ++ (txns i).map fun f => (f.reg p, f.payload p t.ulBuf, true)

/-- R138: a bus command whose transaction number k fails, after the first k were answered OK: LAST_ERR = BUS, BUS_FAULT = 1,
the bus saw the first k and the failed one and none after it, the block is idle again, and the acceptance effects on UL_BUF
and LED_MASK stay. -/
def Obligations.BusCommandFails : Prop :=
  ∀ (p : Config.Params) (s : State) (i : Instr) (waits : List Nat) (lastWait : Nat),
    s.Idle → s.initFailed = false → waits.length < (txns i).length →
    ∃ t u, exec i s = .next u ∧
      runCycles p (cmdWrite (encode i) :: (answersOk waits ++ answeredAfter false lastWait)) s = .next t ∧ t.Idle ∧
      t.lastErr = .bus ∧ t.busFault = true ∧ t.ulBuf = u.ulBuf ∧ t.ledMask = u.ledMask ∧
      busLog t.trace = busLog s.trace ++
        ((txns i).take waits.length).map (fun f => (f.reg p, f.payload p u.ulBuf, true)) ++
        (((txns i).drop waits.length).take 1).map (fun f => (f.reg p, f.payload p u.ulBuf, false))

/-- The spec's own inference of R98: two LED_OUTPUT commands, or two UL_SHOW commands, with UL_BUF unchanged between them send
byte-identical transactions, whatever else of the state differs and however long the bus takes. -/
def Obligations.RepeatedOutputSendsSameBytes : Prop :=
  ∀ (p : Config.Params) (s s' : State) (i : Instr) (waits waits' : List Nat),
    s.Idle → s.initFailed = false → s'.Idle → s'.initFailed = false → s.ulBuf = s'.ulBuf →
    i ∈ [Instr.ledOutput, .ulShow] → waits.length = (txns i).length → waits'.length = (txns i).length →
    ∃ t t', runCycles p (cmdWrite (encode i) :: answersOk waits) s = .next t ∧
      runCycles p (cmdWrite (encode i) :: answersOk waits') s' = .next t' ∧
      ∃ sent, busLog t.trace = busLog s.trace ++ sent ∧ busLog t'.trace = busLog s'.trace ++ sent

/-- The spec's own inference of R132: two UL_CLEAR commands in a row, answered OK: after each one UL_BUF is all zero, one
T_OFF has been sent, and LAST_ERR is OK. -/
def Obligations.UnderlightClearTwice : Prop :=
  ∀ (p : Config.Params) (s : State) (a b : Nat), s.Idle → s.initFailed = false →
    ∃ t u, runCycles p (cmdWrite 0x51000000 :: answeredAfter true a) s = .next t ∧
      runCycles p (cmdWrite 0x51000000 :: answeredAfter true b) t = .next u ∧
      (∀ c : Fin 18, t.ulBuf[c] = 0 ∧ u.ulBuf[c] = 0) ∧ t.lastErr = .ok ∧ u.lastErr = .ok ∧
      busLog t.trace = busLog s.trace ++ [(p.regEnableOutput, [p.enOff], true)] ∧
      busLog u.trace = busLog t.trace ++ [(p.regEnableOutput, [p.enOff], true)]

/-! ### The buttons (41_buttons.md) -/

/-- R101: at every edge outside reset the latch takes the inverted pins, in every state; at an edge with rst = 1 it
takes 0. -/
def Obligations.ButtonLatchSamplesEveryEdge : Prop :=
  ∀ (p : Config.Params) (x : PortInputs) (s t : State), cycleWith p x s = .next t →
    (x.rst = false → ∀ k : Fin 4, t.btnLatch.getLsbD k.val = !x.btnN.getLsbD k.val) ∧
    (x.rst = true → t.btnLatch = 0)

/-! ### What each unit leaves alone -/

/-- MOTOR_EN falls only by reset, and MOTOR_EN and the four duties change outside reset only at the acceptance of a motor
command (R34, R114). -/
def Obligations.OnlyMotorCommandsMoveMotors : Prop :=
  ∀ (p : Config.Params) (x : PortInputs) (s t : State), x.rst = false → cycleWith p x s = .next t →
    (s.motorEn = true → t.motorEn = true) ∧
    ((t.motorEn, t.dutyLA, t.dutyLB, t.dutyRA, t.dutyRB) = (s.motorEn, s.dutyLA, s.dutyLB, s.dutyRA, s.dutyRB) ∨
     (transferCompletes x s = true ∧ x.hRd = false ∧ x.hAddr = 0 ∧ t.motorEn = true ∧
      ((∃ m v, decode x.hWdata = some (.motorSet m v)) ∨
       ∃ i ∈ [Instr.motorForward, .motorBackward, .motorStop], decode x.hWdata = some i)))

/-- The buffers change outside reset only at the acceptance of their own commands, in a cycle in which a write to CMD
completes: UL_BUF by UL_SET and UL_CLEAR, LED_MASK by LED_SET_MASK, the lights by BTN_LIGHT and BTN_LIGHTS_CLEAR (R31,
R32, R34, D38); so none changes while BUSY = 1. -/
def Obligations.BuffersChangeOnlyByTheirCommands : Prop :=
  ∀ (p : Config.Params) (x : PortInputs) (s t : State), x.rst = false → cycleWith p x s = .next t →
    let accepted : Prop :=
      transferCompletes x s = true ∧ x.hRd = false ∧ x.hWr = true ∧ x.hAddr = 0 ∧ s.busy = false
    (t.ulBuf = s.ulBuf ∨ (accepted ∧
      (decode x.hWdata = some .ulClear ∨ ∃ r g b, decode x.hWdata = some (.ulSet r g b)))) ∧
    (t.ledMask = s.ledMask ∨ (accepted ∧ ∃ m, decode x.hWdata = some (.ledSetMask m) ∧ t.ledMask = m)) ∧
    (t.light = s.light ∨ (accepted ∧
      (decode x.hWdata = some .btnLightsClear ∨ ∃ btn v, decode x.hWdata = some (.btnLight btn v))))

/-- The echo line matters only on ticks in AWAIT_START and AWAIT_END (R119, R127, D34). -/
def Obligations.EchoIgnoredOutsideItsTicks : Prop :=
  ∀ (p : Config.Params) (x : PortInputs) (s : State) (e : Bool),
    s.rstate = .idle ∨ s.rstate = .triggered ∨ s.presc ≠ p.clkPerUsPred →
    cycleWith p x s = cycleWith p { x with echo := e } s

/-- Each cycle only adds to the history, every event with the number of the cycle (R65). That a cycle counts one, that
the history outlives a reset edge and that a cycle takes the head of the queue of draws are the model's own, DESIGN
CHOICE (logs 1 and 2). -/
def Obligations.HistoryOnlyGrows : Prop :=
  ∀ (p : Config.Params) (x : PortInputs) (s t : State), cycleWith p x s = .next t →
    t.cycle = s.cycle + 1 ∧ t.inputs = s.inputs.tail ∧
    ∃ added : List (Nat × Event), t.trace = added ++ s.trace ∧ added ≠ [] ∧ ∀ e ∈ added, e.1 = s.cycle + 1

/-- R65, the transfers: outside reset a completed read, a completed write and the acceptance of a command word stand in the
history with their offset, their value and their cycle. The cycle count is the model's own field (log 2). -/
def Obligations.CompletedTransfersAreRecorded : Prop :=
  ∀ (p : Config.Params) (x : PortInputs) (s t : State), x.rst = false → cycleWith p x s = .next t →
    (x.hRd = true → (s.cycle + 1, .hostRead (4 * x.hAddr.zeroExtend 8) (memRead x.hAddr s)) ∈ t.trace) ∧
    (x.hWr = true → transferCompletes x s = true →
      (s.cycle + 1, .hostWrite (4 * x.hAddr.zeroExtend 8) x.hWdata) ∈ t.trace) ∧
    (x.hWr = true → x.hAddr = 0 → s.busy = false → (s.cycle + 1, .accept x.hWdata) ∈ t.trace)

/-- The machine run from a state whose queue begins with the given draws is the run over those draws. The queue is the
model's own field, DESIGN CHOICE (log 1): it stands for the environment's draws of R17. -/
def Obligations.RunFollowsQueuedDraws : Prop :=
  ∀ (xs rest : List PortInputs) (s : State), s.inputs = xs ++ rest →
    Host.Core.run Sys2Proof.core xs.length s = runCycles Config.params xs s

/-! ### The ranging timer (43_ranging.md) -/

/-- R117: the prescaler in every cycle of a measurement, and in IDLE. In a cycle of a measurement that is no tick,
PRESC goes up by one, the button latch samples (R101), BUS_FAULT is cleared by a host write to STATUS with bit 3 = 1
and is else as before (R50), and no other element changes (R119). The queue of draws, the cycle count and the history
are the model's own fields (logs 1 and 2). -/
def Obligations.PrescalerCountsCycles : Prop :=
  ∀ (p : Config.Params) (x : PortInputs) (s t : State), s.Inv p → x.rst = false → cycleWith p x s = .next t →
    (s.rstate ≠ .idle → t.presc = if s.presc = p.clkPerUsPred then 0 else s.presc + 1) ∧
    (s.rstate = .idle → t.presc = s.presc) ∧
    (s.rstate ≠ .idle → s.presc ≠ p.clkPerUsPred →
      t = { s with
        presc := s.presc + 1, btnLatch := ~~~ x.btnN
        busFault := if x.hWr = true ∧ x.hAddr = 1 ∧ x.hWdata.getLsbD 3 = true then false else s.busFault
        inputs := t.inputs, cycle := t.cycle, trace := t.trace })

/-- The spec's own inference in R119: from the acceptance of RANGE the trigger line is 1 for exactly 10 x P_CLK_PER_US cycles,
whatever the host, the echo and the buttons do, and then AWAIT_START begins. -/
def Obligations.TriggerPulseIsTenMicroseconds : Prop :=
  ∀ (p : Config.Params) (s : State) (xs : List PortInputs), s.Idle → s.initFailed = false →
    (∀ x ∈ xs, x.rst = false ∧ requestLegal x = true) → xs.length ≤ 10 * p.clkPerUs →
    ∃ t, runCycles p (cmdWrite 0x40000000 :: xs) s = .next t ∧ t.busy = true ∧
      (xs.length < 10 * p.clkPerUs → t.trig = true ∧ t.rstate = .triggered) ∧
      (xs.length = 10 * p.clkPerUs → t.trig = false ∧ t.rstate = .awaitStart)

/-- The spec's own inference of R170: a RANGE whose echo line is low for l and then high for h microseconds (h at
least 1) and then low completes OK, within the timeout if there is one, at the edge ending cycle a + (10 + l + 1 + h)
x P_CLK_PER_US after its acceptance in cycle a, with RANGE_US = h and RANGE_DIST = 17 h, saturated to 32 bits (R121,
R125); until then it is busy. The cycle count is the model's own field (log 2). -/
def Obligations.RangeMeasuresEchoWidth : Prop :=
  ∀ (p : Config.Params) (s : State) (l h : Nat), s.Idle → s.initFailed = false → 0 < h →
    (p.echoTimeoutUs = 0 ∨ l + h < p.echoTimeoutUs.toNat) →
    let draws := cmdWrite 0x40000000 :: (List.replicate (10 * p.clkPerUs) PortInputs.quiet ++
      echoLevels p (List.replicate l false ++ List.replicate h true ++ [false]))
    (∀ k, 0 < k → k < draws.length → ∃ u, runCycles p (draws.take k) s = .next u ∧ u.busy = true ∧
      u.rangeUs = s.rangeUs ∧ u.rangeDist = s.rangeDist) ∧
    ∃ t, runCycles p draws s = .next t ∧ t.Idle ∧ t.cycle = s.cycle + 1 + (10 + l + 1 + h) * p.clkPerUs ∧
      t.lastErr = .ok ∧ t.rangeValid = true ∧
      t.rangeUs.toNat = min h (2 ^ 32 - 1) ∧ t.rangeDist.toNat = min (17 * h) (2 ^ 32 - 1)

/-- R139 and the timing that the spec infers in R170: a RANGE with the timeout T > 0 that spends T microseconds
waiting, l of them low and the rest high, completes with NO_ECHO at the edge ending cycle a + (10 + T) x P_CLK_PER_US
after its acceptance in cycle a: RANGE_VALID is 0 and the previous result stays; until then it is busy. The cycle
count is the model's own field (log 2). -/
def Obligations.RangeTimesOut : Prop :=
  ∀ (p : Config.Params) (s : State) (l h : Nat), s.Idle → s.initFailed = false → p.echoTimeoutUs ≠ 0 →
    l + h = p.echoTimeoutUs.toNat →
    let draws := cmdWrite 0x40000000 :: (List.replicate (10 * p.clkPerUs) PortInputs.quiet ++
      echoLevels p (List.replicate l false ++ List.replicate h true))
    (∀ k, 0 < k → k < draws.length → ∃ u, runCycles p (draws.take k) s = .next u ∧ u.busy = true ∧
      u.rangeUs = s.rangeUs ∧ u.rangeDist = s.rangeDist) ∧
    ∃ t, runCycles p draws s = .next t ∧ t.cycle = s.cycle + 1 + (10 + p.echoTimeoutUs.toNat) * p.clkPerUs ∧
      t.Idle ∧ t.lastErr = .noEcho ∧ t.rangeValid = false ∧ t.rangeUs = s.rangeUs ∧ t.rangeDist = s.rangeDist

/-- R123: with no timeout, a measurement whose echo never rises stays in AWAIT_START, and one whose echo never falls
stays in AWAIT_END, BUSY = 1, for any number of cycles and whatever the host does short of reset; the other units keep
their outputs. -/
def Obligations.RangeWithoutEchoHangs : Prop :=
  ∀ (p : Config.Params) (s : State) (xs : List PortInputs) (e : Bool), s.Inv p → p.echoTimeoutUs = 0 →
    s.rstate = (if e then .awaitEnd else .awaitStart) →
    (∀ x ∈ xs, x.rst = false ∧ requestLegal x = true ∧ x.echo = e) →
    ∃ t, runCycles p xs s = .next t ∧ t.rstate = s.rstate ∧ t.busy = true ∧ t.cur = s.cur ∧
      pinLevels t = pinLevels s ∧ t.ulBuf = s.ulBuf ∧ t.ledMask = s.ledMask

/-- R125: the distance of a measured width. Unsaturated, RANGE_DIST / 1000 is elapsed x 0.034 / 2; it saturates exactly above
252645135, and 1000 microseconds give 17000. -/
def Obligations.DistanceOfWidth : Prop :=
  (∀ h : Word, (rangeDistance h).toNat = min (h.toNat * 17) (2 ^ 32 - 1)) ∧
  (∀ h : Word, h.toNat ≤ 252645135 →
    ((rangeDistance h).toNat : ℚ) / 1000 = (h.toNat : ℚ) * (34 / 1000) / 2) ∧
  (∀ h : Word, 252645135 < h.toNat → rangeDistance h = 0xFFFFFFFF#32) ∧
  17 * 252645135 = 2 ^ 32 - 1 ∧ rangeDistance 1000 = 17000 ∧
  (∀ (p : Config.Params) (s : State), (tickAwaitEnd p false s).rangeUs = s.hcount ∧
    (tickAwaitEnd p false s).rangeDist = rangeDistance s.hcount) ∧
  (∀ (p : Config.Params) (s : State),
    (tickAwaitEnd p true s).hcount.toNat = min (s.hcount.toNat + 1) (2 ^ 32 - 1))

/-! ### The host of R82 -/

/-- The host of R82 keeps the contract of R48: a transfer that does not complete holds the host on its line, so its request of
the next cycle is the same one; and its request is never both a read and a write. -/
def Obligations.HostProgramHoldsItsRequest : Prop :=
  ∀ (prog : List HostLine) (h : HostState) (x y : PortInputs) (s : State),
    let x' := driveRequest prog h x
    let h' := hostAdvance prog (transferCompletes x' s) (hRdata x' s) h
    requestLegal x' = true ∧ hostHolds x' (driveRequest prog h' y) s = true ∧
    ((x'.hRd = true ∨ x'.hWr = true) → transferCompletes x' s = false → h' = h)
end

