-- ==== Sys2Proof/Laws/Frame.lean ====
section
/-!
SUPPORT. What a unit of the block leaves alone in a cycle, field by field, and what every command leaves alone at acceptance:
the frames that the statements about whole cycles cite.
-/

namespace Sys2Proof.Machine

/-! ### An answer of the collaborator (R89) -/

@[simp] theorem answerTxn_initDone (p : Config.Params) (ok : Bool) (f : TxnForm) (s : State) :
    (answerTxn p ok f s).initDone = s.initDone := by
  rcases answerTxn_cases p ok f s with ⟨-, h⟩ | ⟨-, -, h⟩ | ⟨-, -, h⟩ <;> simp [h]
@[simp] theorem answerTxn_initFailed (p : Config.Params) (ok : Bool) (f : TxnForm) (s : State) :
    (answerTxn p ok f s).initFailed = s.initFailed := by
  rcases answerTxn_cases p ok f s with ⟨-, h⟩ | ⟨-, -, h⟩ | ⟨-, -, h⟩ <;> simp [h]
@[simp] theorem answerTxn_rangeValid (p : Config.Params) (ok : Bool) (f : TxnForm) (s : State) :
    (answerTxn p ok f s).rangeValid = s.rangeValid := by
  rcases answerTxn_cases p ok f s with ⟨-, h⟩ | ⟨-, -, h⟩ | ⟨-, -, h⟩ <;> simp [h]
@[simp] theorem answerTxn_motorEn (p : Config.Params) (ok : Bool) (f : TxnForm) (s : State) :
    (answerTxn p ok f s).motorEn = s.motorEn := by
  rcases answerTxn_cases p ok f s with ⟨-, h⟩ | ⟨-, -, h⟩ | ⟨-, -, h⟩ <;> simp [h]
@[simp] theorem answerTxn_trig (p : Config.Params) (ok : Bool) (f : TxnForm) (s : State) :
    (answerTxn p ok f s).trig = s.trig := by
  rcases answerTxn_cases p ok f s with ⟨-, h⟩ | ⟨-, -, h⟩ | ⟨-, -, h⟩ <;> simp [h]
@[simp] theorem answerTxn_rstate (p : Config.Params) (ok : Bool) (f : TxnForm) (s : State) :
    (answerTxn p ok f s).rstate = s.rstate := by
  rcases answerTxn_cases p ok f s with ⟨-, h⟩ | ⟨-, -, h⟩ | ⟨-, -, h⟩ <;> simp [h]
@[simp] theorem answerTxn_presc (p : Config.Params) (ok : Bool) (f : TxnForm) (s : State) :
    (answerTxn p ok f s).presc = s.presc := by
  rcases answerTxn_cases p ok f s with ⟨-, h⟩ | ⟨-, -, h⟩ | ⟨-, -, h⟩ <;> simp [h]
@[simp] theorem answerTxn_tcount (p : Config.Params) (ok : Bool) (f : TxnForm) (s : State) :
    (answerTxn p ok f s).tcount = s.tcount := by
  rcases answerTxn_cases p ok f s with ⟨-, h⟩ | ⟨-, -, h⟩ | ⟨-, -, h⟩ <;> simp [h]
@[simp] theorem answerTxn_hcount (p : Config.Params) (ok : Bool) (f : TxnForm) (s : State) :
    (answerTxn p ok f s).hcount = s.hcount := by
  rcases answerTxn_cases p ok f s with ⟨-, h⟩ | ⟨-, -, h⟩ | ⟨-, -, h⟩ <;> simp [h]
@[simp] theorem answerTxn_wcount (p : Config.Params) (ok : Bool) (f : TxnForm) (s : State) :
    (answerTxn p ok f s).wcount = s.wcount := by
  rcases answerTxn_cases p ok f s with ⟨-, h⟩ | ⟨-, -, h⟩ | ⟨-, -, h⟩ <;> simp [h]
@[simp] theorem answerTxn_rangeUs (p : Config.Params) (ok : Bool) (f : TxnForm) (s : State) :
    (answerTxn p ok f s).rangeUs = s.rangeUs := by
  rcases answerTxn_cases p ok f s with ⟨-, h⟩ | ⟨-, -, h⟩ | ⟨-, -, h⟩ <;> simp [h]
@[simp] theorem answerTxn_rangeDist (p : Config.Params) (ok : Bool) (f : TxnForm) (s : State) :
    (answerTxn p ok f s).rangeDist = s.rangeDist := by
  rcases answerTxn_cases p ok f s with ⟨-, h⟩ | ⟨-, -, h⟩ | ⟨-, -, h⟩ <;> simp [h]
@[simp] theorem answerTxn_btnLatch (p : Config.Params) (ok : Bool) (f : TxnForm) (s : State) :
    (answerTxn p ok f s).btnLatch = s.btnLatch := by
  rcases answerTxn_cases p ok f s with ⟨-, h⟩ | ⟨-, -, h⟩ | ⟨-, -, h⟩ <;> simp [h]
@[simp] theorem answerTxn_light (p : Config.Params) (ok : Bool) (f : TxnForm) (s : State) :
    (answerTxn p ok f s).light = s.light := by
  rcases answerTxn_cases p ok f s with ⟨-, h⟩ | ⟨-, -, h⟩ | ⟨-, -, h⟩ <;> simp [h]
@[simp] theorem answerTxn_dutyLA (p : Config.Params) (ok : Bool) (f : TxnForm) (s : State) :
    (answerTxn p ok f s).dutyLA = s.dutyLA := by
  rcases answerTxn_cases p ok f s with ⟨-, h⟩ | ⟨-, -, h⟩ | ⟨-, -, h⟩ <;> simp [h]
@[simp] theorem answerTxn_dutyLB (p : Config.Params) (ok : Bool) (f : TxnForm) (s : State) :
    (answerTxn p ok f s).dutyLB = s.dutyLB := by
  rcases answerTxn_cases p ok f s with ⟨-, h⟩ | ⟨-, -, h⟩ | ⟨-, -, h⟩ <;> simp [h]
@[simp] theorem answerTxn_dutyRA (p : Config.Params) (ok : Bool) (f : TxnForm) (s : State) :
    (answerTxn p ok f s).dutyRA = s.dutyRA := by
  rcases answerTxn_cases p ok f s with ⟨-, h⟩ | ⟨-, -, h⟩ | ⟨-, -, h⟩ <;> simp [h]
@[simp] theorem answerTxn_dutyRB (p : Config.Params) (ok : Bool) (f : TxnForm) (s : State) :
    (answerTxn p ok f s).dutyRB = s.dutyRB := by
  rcases answerTxn_cases p ok f s with ⟨-, h⟩ | ⟨-, -, h⟩ | ⟨-, -, h⟩ <;> simp [h]
@[simp] theorem answerTxn_ledMask (p : Config.Params) (ok : Bool) (f : TxnForm) (s : State) :
    (answerTxn p ok f s).ledMask = s.ledMask := by
  rcases answerTxn_cases p ok f s with ⟨-, h⟩ | ⟨-, -, h⟩ | ⟨-, -, h⟩ <;> simp [h]
@[simp] theorem answerTxn_ulBuf (p : Config.Params) (ok : Bool) (f : TxnForm) (s : State) :
    (answerTxn p ok f s).ulBuf = s.ulBuf := by
  rcases answerTxn_cases p ok f s with ⟨-, h⟩ | ⟨-, -, h⟩ | ⟨-, -, h⟩ <;> simp [h]
@[simp] theorem answerTxn_inputs (p : Config.Params) (ok : Bool) (f : TxnForm) (s : State) :
    (answerTxn p ok f s).inputs = s.inputs := by
  rcases answerTxn_cases p ok f s with ⟨-, h⟩ | ⟨-, -, h⟩ | ⟨-, -, h⟩ <;> simp [h]
@[simp] theorem answerTxn_cycle (p : Config.Params) (ok : Bool) (f : TxnForm) (s : State) :
    (answerTxn p ok f s).cycle = s.cycle := by
  rcases answerTxn_cases p ok f s with ⟨-, h⟩ | ⟨-, -, h⟩ | ⟨-, -, h⟩ <;> simp [h]

/-! ### The timeout step and the ranging timer (R117 to R122) -/

@[simp] theorem timeoutStep_initDone (p : Config.Params) (s : State) :
    (timeoutStep p s).initDone = s.initDone := by
  rcases timeoutStep_cases p s with ⟨-, h⟩ | ⟨-, -, h⟩ | ⟨-, -, h⟩ <;> simp [h]
@[simp] theorem timeoutStep_initFailed (p : Config.Params) (s : State) :
    (timeoutStep p s).initFailed = s.initFailed := by
  rcases timeoutStep_cases p s with ⟨-, h⟩ | ⟨-, -, h⟩ | ⟨-, -, h⟩ <;> simp [h]
@[simp] theorem timeoutStep_rangeValid (p : Config.Params) (s : State) :
    (timeoutStep p s).rangeValid = s.rangeValid := by
  rcases timeoutStep_cases p s with ⟨-, h⟩ | ⟨-, -, h⟩ | ⟨-, -, h⟩ <;> simp [h]
@[simp] theorem timeoutStep_busFault (p : Config.Params) (s : State) :
    (timeoutStep p s).busFault = s.busFault := by
  rcases timeoutStep_cases p s with ⟨-, h⟩ | ⟨-, -, h⟩ | ⟨-, -, h⟩ <;> simp [h]
@[simp] theorem timeoutStep_motorEn (p : Config.Params) (s : State) :
    (timeoutStep p s).motorEn = s.motorEn := by
  rcases timeoutStep_cases p s with ⟨-, h⟩ | ⟨-, -, h⟩ | ⟨-, -, h⟩ <;> simp [h]
@[simp] theorem timeoutStep_seq (p : Config.Params) (s : State) :
    (timeoutStep p s).seq = s.seq := by
  rcases timeoutStep_cases p s with ⟨-, h⟩ | ⟨-, -, h⟩ | ⟨-, -, h⟩ <;> simp [h]
@[simp] theorem timeoutStep_tcount (p : Config.Params) (s : State) :
    (timeoutStep p s).tcount = s.tcount := by
  rcases timeoutStep_cases p s with ⟨-, h⟩ | ⟨-, -, h⟩ | ⟨-, -, h⟩ <;> simp [h]
@[simp] theorem timeoutStep_hcount (p : Config.Params) (s : State) :
    (timeoutStep p s).hcount = s.hcount := by
  rcases timeoutStep_cases p s with ⟨-, h⟩ | ⟨-, -, h⟩ | ⟨-, -, h⟩ <;> simp [h]
@[simp] theorem timeoutStep_rangeUs (p : Config.Params) (s : State) :
    (timeoutStep p s).rangeUs = s.rangeUs := by
  rcases timeoutStep_cases p s with ⟨-, h⟩ | ⟨-, -, h⟩ | ⟨-, -, h⟩ <;> simp [h]
@[simp] theorem timeoutStep_rangeDist (p : Config.Params) (s : State) :
    (timeoutStep p s).rangeDist = s.rangeDist := by
  rcases timeoutStep_cases p s with ⟨-, h⟩ | ⟨-, -, h⟩ | ⟨-, -, h⟩ <;> simp [h]
@[simp] theorem timeoutStep_btnLatch (p : Config.Params) (s : State) :
    (timeoutStep p s).btnLatch = s.btnLatch := by
  rcases timeoutStep_cases p s with ⟨-, h⟩ | ⟨-, -, h⟩ | ⟨-, -, h⟩ <;> simp [h]
@[simp] theorem timeoutStep_light (p : Config.Params) (s : State) :
    (timeoutStep p s).light = s.light := by
  rcases timeoutStep_cases p s with ⟨-, h⟩ | ⟨-, -, h⟩ | ⟨-, -, h⟩ <;> simp [h]
@[simp] theorem timeoutStep_dutyLA (p : Config.Params) (s : State) :
    (timeoutStep p s).dutyLA = s.dutyLA := by
  rcases timeoutStep_cases p s with ⟨-, h⟩ | ⟨-, -, h⟩ | ⟨-, -, h⟩ <;> simp [h]
@[simp] theorem timeoutStep_dutyLB (p : Config.Params) (s : State) :
    (timeoutStep p s).dutyLB = s.dutyLB := by
  rcases timeoutStep_cases p s with ⟨-, h⟩ | ⟨-, -, h⟩ | ⟨-, -, h⟩ <;> simp [h]
@[simp] theorem timeoutStep_dutyRA (p : Config.Params) (s : State) :
    (timeoutStep p s).dutyRA = s.dutyRA := by
  rcases timeoutStep_cases p s with ⟨-, h⟩ | ⟨-, -, h⟩ | ⟨-, -, h⟩ <;> simp [h]
@[simp] theorem timeoutStep_dutyRB (p : Config.Params) (s : State) :
    (timeoutStep p s).dutyRB = s.dutyRB := by
  rcases timeoutStep_cases p s with ⟨-, h⟩ | ⟨-, -, h⟩ | ⟨-, -, h⟩ <;> simp [h]
@[simp] theorem timeoutStep_ledMask (p : Config.Params) (s : State) :
    (timeoutStep p s).ledMask = s.ledMask := by
  rcases timeoutStep_cases p s with ⟨-, h⟩ | ⟨-, -, h⟩ | ⟨-, -, h⟩ <;> simp [h]
@[simp] theorem timeoutStep_ulBuf (p : Config.Params) (s : State) :
    (timeoutStep p s).ulBuf = s.ulBuf := by
  rcases timeoutStep_cases p s with ⟨-, h⟩ | ⟨-, -, h⟩ | ⟨-, -, h⟩ <;> simp [h]
@[simp] theorem timeoutStep_bValid (p : Config.Params) (s : State) :
    (timeoutStep p s).bValid = s.bValid := by
  rcases timeoutStep_cases p s with ⟨-, h⟩ | ⟨-, -, h⟩ | ⟨-, -, h⟩ <;> simp [h]
@[simp] theorem timeoutStep_inputs (p : Config.Params) (s : State) :
    (timeoutStep p s).inputs = s.inputs := by
  rcases timeoutStep_cases p s with ⟨-, h⟩ | ⟨-, -, h⟩ | ⟨-, -, h⟩ <;> simp [h]
@[simp] theorem timeoutStep_cycle (p : Config.Params) (s : State) :
    (timeoutStep p s).cycle = s.cycle := by
  rcases timeoutStep_cases p s with ⟨-, h⟩ | ⟨-, -, h⟩ | ⟨-, -, h⟩ <;> simp [h]
@[simp] theorem rangeCycle_initDone (p : Config.Params) (x : PortInputs) (s : State) :
    (rangeCycle p x s).initDone = s.initDone := by
  rcases rangeCycle_cases p x s with ⟨-, h⟩ | ⟨-, -, h⟩ | ⟨-, -, h⟩ | ⟨-, -, h⟩ | ⟨-, -, h⟩ <;>
    simp [h, tickTriggered, tickAwaitStart, tickAwaitEnd, apply_ite State.initDone]
@[simp] theorem rangeCycle_initFailed (p : Config.Params) (x : PortInputs) (s : State) :
    (rangeCycle p x s).initFailed = s.initFailed := by
  rcases rangeCycle_cases p x s with ⟨-, h⟩ | ⟨-, -, h⟩ | ⟨-, -, h⟩ | ⟨-, -, h⟩ | ⟨-, -, h⟩ <;>
    simp [h, tickTriggered, tickAwaitStart, tickAwaitEnd, apply_ite State.initFailed]
@[simp] theorem rangeCycle_busFault (p : Config.Params) (x : PortInputs) (s : State) :
    (rangeCycle p x s).busFault = s.busFault := by
  rcases rangeCycle_cases p x s with ⟨-, h⟩ | ⟨-, -, h⟩ | ⟨-, -, h⟩ | ⟨-, -, h⟩ | ⟨-, -, h⟩ <;>
    simp [h, tickTriggered, tickAwaitStart, tickAwaitEnd, apply_ite State.busFault]
@[simp] theorem rangeCycle_motorEn (p : Config.Params) (x : PortInputs) (s : State) :
    (rangeCycle p x s).motorEn = s.motorEn := by
  rcases rangeCycle_cases p x s with ⟨-, h⟩ | ⟨-, -, h⟩ | ⟨-, -, h⟩ | ⟨-, -, h⟩ | ⟨-, -, h⟩ <;>
    simp [h, tickTriggered, tickAwaitStart, tickAwaitEnd, apply_ite State.motorEn]
@[simp] theorem rangeCycle_seq (p : Config.Params) (x : PortInputs) (s : State) :
    (rangeCycle p x s).seq = s.seq := by
  rcases rangeCycle_cases p x s with ⟨-, h⟩ | ⟨-, -, h⟩ | ⟨-, -, h⟩ | ⟨-, -, h⟩ | ⟨-, -, h⟩ <;>
    simp [h, tickTriggered, tickAwaitStart, tickAwaitEnd, apply_ite State.seq]
@[simp] theorem rangeCycle_btnLatch (p : Config.Params) (x : PortInputs) (s : State) :
    (rangeCycle p x s).btnLatch = s.btnLatch := by
  rcases rangeCycle_cases p x s with ⟨-, h⟩ | ⟨-, -, h⟩ | ⟨-, -, h⟩ | ⟨-, -, h⟩ | ⟨-, -, h⟩ <;>
    simp [h, tickTriggered, tickAwaitStart, tickAwaitEnd, apply_ite State.btnLatch]
@[simp] theorem rangeCycle_light (p : Config.Params) (x : PortInputs) (s : State) :
    (rangeCycle p x s).light = s.light := by
  rcases rangeCycle_cases p x s with ⟨-, h⟩ | ⟨-, -, h⟩ | ⟨-, -, h⟩ | ⟨-, -, h⟩ | ⟨-, -, h⟩ <;>
    simp [h, tickTriggered, tickAwaitStart, tickAwaitEnd, apply_ite State.light]
@[simp] theorem rangeCycle_dutyLA (p : Config.Params) (x : PortInputs) (s : State) :
    (rangeCycle p x s).dutyLA = s.dutyLA := by
  rcases rangeCycle_cases p x s with ⟨-, h⟩ | ⟨-, -, h⟩ | ⟨-, -, h⟩ | ⟨-, -, h⟩ | ⟨-, -, h⟩ <;>
    simp [h, tickTriggered, tickAwaitStart, tickAwaitEnd, apply_ite State.dutyLA]
@[simp] theorem rangeCycle_dutyLB (p : Config.Params) (x : PortInputs) (s : State) :
    (rangeCycle p x s).dutyLB = s.dutyLB := by
  rcases rangeCycle_cases p x s with ⟨-, h⟩ | ⟨-, -, h⟩ | ⟨-, -, h⟩ | ⟨-, -, h⟩ | ⟨-, -, h⟩ <;>
    simp [h, tickTriggered, tickAwaitStart, tickAwaitEnd, apply_ite State.dutyLB]
@[simp] theorem rangeCycle_dutyRA (p : Config.Params) (x : PortInputs) (s : State) :
    (rangeCycle p x s).dutyRA = s.dutyRA := by
  rcases rangeCycle_cases p x s with ⟨-, h⟩ | ⟨-, -, h⟩ | ⟨-, -, h⟩ | ⟨-, -, h⟩ | ⟨-, -, h⟩ <;>
    simp [h, tickTriggered, tickAwaitStart, tickAwaitEnd, apply_ite State.dutyRA]
@[simp] theorem rangeCycle_dutyRB (p : Config.Params) (x : PortInputs) (s : State) :
    (rangeCycle p x s).dutyRB = s.dutyRB := by
  rcases rangeCycle_cases p x s with ⟨-, h⟩ | ⟨-, -, h⟩ | ⟨-, -, h⟩ | ⟨-, -, h⟩ | ⟨-, -, h⟩ <;>
    simp [h, tickTriggered, tickAwaitStart, tickAwaitEnd, apply_ite State.dutyRB]
@[simp] theorem rangeCycle_ledMask (p : Config.Params) (x : PortInputs) (s : State) :
    (rangeCycle p x s).ledMask = s.ledMask := by
  rcases rangeCycle_cases p x s with ⟨-, h⟩ | ⟨-, -, h⟩ | ⟨-, -, h⟩ | ⟨-, -, h⟩ | ⟨-, -, h⟩ <;>
    simp [h, tickTriggered, tickAwaitStart, tickAwaitEnd, apply_ite State.ledMask]
@[simp] theorem rangeCycle_ulBuf (p : Config.Params) (x : PortInputs) (s : State) :
    (rangeCycle p x s).ulBuf = s.ulBuf := by
  rcases rangeCycle_cases p x s with ⟨-, h⟩ | ⟨-, -, h⟩ | ⟨-, -, h⟩ | ⟨-, -, h⟩ | ⟨-, -, h⟩ <;>
    simp [h, tickTriggered, tickAwaitStart, tickAwaitEnd, apply_ite State.ulBuf]
@[simp] theorem rangeCycle_bValid (p : Config.Params) (x : PortInputs) (s : State) :
    (rangeCycle p x s).bValid = s.bValid := by
  rcases rangeCycle_cases p x s with ⟨-, h⟩ | ⟨-, -, h⟩ | ⟨-, -, h⟩ | ⟨-, -, h⟩ | ⟨-, -, h⟩ <;>
    simp [h, tickTriggered, tickAwaitStart, tickAwaitEnd, apply_ite State.bValid]
@[simp] theorem rangeCycle_inputs (p : Config.Params) (x : PortInputs) (s : State) :
    (rangeCycle p x s).inputs = s.inputs := by
  rcases rangeCycle_cases p x s with ⟨-, h⟩ | ⟨-, -, h⟩ | ⟨-, -, h⟩ | ⟨-, -, h⟩ | ⟨-, -, h⟩ <;>
    simp [h, tickTriggered, tickAwaitStart, tickAwaitEnd, apply_ite State.inputs]
@[simp] theorem rangeCycle_cycle (p : Config.Params) (x : PortInputs) (s : State) :
    (rangeCycle p x s).cycle = s.cycle := by
  rcases rangeCycle_cases p x s with ⟨-, h⟩ | ⟨-, -, h⟩ | ⟨-, -, h⟩ | ⟨-, -, h⟩ | ⟨-, -, h⟩ <;>
    simp [h, tickTriggered, tickAwaitStart, tickAwaitEnd, apply_ite State.cycle]

/-! ### The commands: what each does when the block is ready (R92 to R131) -/

/-- The acceptance effect of a command in a block whose initialisation did not fail. -/
def accepted : Instr → State → State
  | .ledReset, s => startBus (encode .ledReset) s
  | .ledEnable, s => startBus (encode .ledEnable) s
  | .ledDisable, s => startBus (encode .ledDisable) s
  | .ledSetMask mask, s => startBus (encode (.ledSetMask mask)) { s with ledMask := mask }
  | .ledOutput, s => startBus (encode .ledOutput) s
  | .btnLight btn v, s =>
    if intensityInRange v then complete .ok { s with light := s.light.set (buttonIndex btn) v } else raiseErr .operand s
  | .btnLightsClear, s => complete .ok { s with light := Vector.replicate 4 0 }
  | .motorSet m v, s =>
    if speedInRange v then complete .ok (setMotor m (dual (speedInt v)) { s with motorEn := true }) else raiseErr .operand s
  | .motorForward, s => complete .ok (setBothMotors 16384 s)
  | .motorBackward, s => complete .ok (setBothMotors (-16384) s)
  | .motorStop, s => complete .ok (setBothMotors 0 s)
  | .range, s =>
    { s with rangeValid := false, trig := true, presc := 0, tcount := 0, hcount := 0, wcount := 0, rstate := .triggered, cur := encode .range, busy := true }
  | .ulSet r g b, s =>
    startBus (encode (.ulSet r g b)) { s with ulBuf := replicateColour r g b }
  | .ulClear, s => startBus (encode .ulClear) { s with ulBuf := zeroBuffer }
  | .ulShow, s => startBus (encode .ulShow) s

/-- Every meaning is the NOT_READY check and then its acceptance effect. -/
theorem exec_eq (i : Instr) (s : State) : exec i s = whenReady s (accepted i) := by
  cases i <;> rfl

theorem exec_of_ready {s : State} (h : s.initFailed = false) (i : Instr) : exec i s = .next (accepted i s) := by
  rw [exec_eq, whenReady_of_ready h]

theorem exec_of_failed {s : State} (h : s.initFailed = true) (i : Instr) :
    exec i s = .next (raiseErr .notReady s) := by
  rw [exec_eq, whenReady_of_failed h]

/-! ### The units and the commands -/

/-- The bus sequencer's frame in a cycle (R89). -/
structure SameOutsideBus (s t : State) : Prop where
  initDone : t.initDone = s.initDone
  initFailed : t.initFailed = s.initFailed
  rangeValid : t.rangeValid = s.rangeValid
  motorEn : t.motorEn = s.motorEn
  trig : t.trig = s.trig
  rstate : t.rstate = s.rstate
  presc : t.presc = s.presc
  tcount : t.tcount = s.tcount
  hcount : t.hcount = s.hcount
  wcount : t.wcount = s.wcount
  rangeUs : t.rangeUs = s.rangeUs
  rangeDist : t.rangeDist = s.rangeDist
  btnLatch : t.btnLatch = s.btnLatch
  light : t.light = s.light
  dutyLA : t.dutyLA = s.dutyLA
  dutyLB : t.dutyLB = s.dutyLB
  dutyRA : t.dutyRA = s.dutyRA
  dutyRB : t.dutyRB = s.dutyRB
  ledMask : t.ledMask = s.ledMask
  ulBuf : t.ulBuf = s.ulBuf
  inputs : t.inputs = s.inputs
  cycle : t.cycle = s.cycle

/-- The sequencer changes BUS_FAULT, B_VALID, CUR, SEQ, LAST_ERR and BUSY at most. -/
theorem busCycle_frame {p : Config.Params} {x : PortInputs} {s t : State} (h : busCycle p x s = .next t) :
    SameOutsideBus s t := by
  rcases busCycle_cases h with ⟨-, rfl⟩ | ⟨-, -, -, rfl⟩ | ⟨f, -, -, -, rfl⟩ <;> constructor <;> simp

/-- What every command leaves alone at acceptance: the initialisation bits, BUS_FAULT, the ranging results, the button latch, and
the model's queue and cycle count. -/
structure SameOutsideCommands (s t : State) : Prop where
  initDone : t.initDone = s.initDone
  initFailed : t.initFailed = s.initFailed
  busFault : t.busFault = s.busFault
  rangeUs : t.rangeUs = s.rangeUs
  rangeDist : t.rangeDist = s.rangeDist
  btnLatch : t.btnLatch = s.btnLatch
  inputs : t.inputs = s.inputs
  cycle : t.cycle = s.cycle

theorem accepted_frame (i : Instr) (s : State) : SameOutsideCommands s (accepted i s) := by
  cases i
  case btnLight => simp only [accepted]; split <;> constructor <;> rfl
  case motorSet => simp only [accepted]; split <;> constructor <;> simp
  all_goals constructor <;> simp [accepted, setBothMotors]

theorem exec_frame {i : Instr} {s t : State} (h : exec i s = .next t) : SameOutsideCommands s t := by
  cases hf : s.initFailed
  · rw [exec_of_ready hf] at h; cases h; exact accepted_frame i s
  · rw [exec_of_failed hf] at h; cases h; constructor <;> rfl

end Sys2Proof.Machine
end

