-- ==== Sys2Proof/Laws/Cycle.lean ====
section
/-!
SUPPORT. A whole cycle in the situations that the statements name: which unit acts, and what the host port adds. And runs of
several cycles.
-/

namespace Sys2Proof.Machine

theorem requestLegal_iff {x : PortInputs} : requestLegal x = true ↔ (x.hRd && x.hWr) = false := by
  simp only [requestLegal, Bool.not_eq_true']

/-- Outside reset and within the host's contract, a cycle is the units and then the host port. -/
theorem cycleWith_of_legal {p : Config.Params} {x : PortInputs} {s : State} (hq : requestLegal x = true)
    (hr : x.rst = false) : cycleWith p x s = andThen (unitsCycle p x s) fun s1 => hostCycle x s s1 := by
  simp [cycleWith, requestLegal_iff.1 hq, hr]

theorem hostCycle_of_stalled {x : PortInputs} {s0 : State} (h : transferCompletes x s0 = false) (s : State) :
    hostCycle x s0 s = .next s := by simp [hostCycle, h]

theorem transferCompletes_of_no_request {x : PortInputs} (hd : x.hRd = false) (hw : x.hWr = false) (s : State) :
    transferCompletes x s = false := by
  cases hr : x.rst <;> simp [transferCompletes, hReady, hd, hw, hr]

/-- With no request, a cycle outside reset is the units alone. -/
theorem cycleWith_of_no_request {p : Config.Params} {x : PortInputs} {s : State} (hr : x.rst = false)
    (hd : x.hRd = false) (hw : x.hWr = false) : cycleWith p x s = unitsCycle p x s := by
  rw [cycleWith_of_legal (by simp [requestLegal, hd]) hr]
  have h : ∀ s1, hostCycle x s s1 = .next s1 := hostCycle_of_stalled (transferCompletes_of_no_request hd hw s)
  simp only [h]
  cases unitsCycle p x s <;> rfl

/-- The units of an initialised block with no measurement in flight: the bus sequencer alone. -/
theorem unitsCycle_of_not_ranging {p : Config.Params} {x : PortInputs} {s : State} (hi : s.initDone = true)
    (hr : s.rstate = .idle) : unitsCycle p x s = busCycle p x (sampleButtons x (beginCycle s)) := by
  unfold unitsCycle
  cases h : busCycle p x (sampleButtons x (beginCycle s)) with
  | next t =>
    have f := busCycle_frame h
    have h1 : t.initDone = true := by rw [f.initDone]; exact hi
    have h2 : t.rstate = .idle := by rw [f.rstate]; exact hr
    simp [initialise_of_done h1, rangeCycle_of_idle h2]
  | fault f => rfl
  | refused r => rfl

/-- The units of an initialised block with no transaction in flight: the ranging timer alone. -/
theorem unitsCycle_of_no_txn {p : Config.Params} {x : PortInputs} {s : State} (hi : s.initDone = true)
    (hv : s.bValid = false) : unitsCycle p x s = .next (rangeCycle p x (sampleButtons x (beginCycle s))) := by
  have h := busCycle_of_not_valid (s := sampleButtons x (beginCycle s)) hv p x
  simp only [unitsCycle, h, andThen_next]
  rw [initialise_of_done (s := sampleButtons x (beginCycle s)) hi]

/-- The units of an idle block do nothing but sample the buttons. -/
theorem unitsCycle_of_idle {p : Config.Params} {x : PortInputs} {s : State} (h : s.Idle) :
    unitsCycle p x s = .next (sampleButtons x (beginCycle s)) := by
  rw [unitsCycle_of_no_txn h.initDone h.noTxn,
    rangeCycle_of_idle (s := sampleButtons x (beginCycle s)) h.noRanging]

/-! ### Runs -/

@[simp] theorem runCycles_nil (p : Config.Params) (s : State) : runCycles p [] s = .next s := rfl

@[simp] theorem runCycles_cons (p : Config.Params) (x : PortInputs) (xs : List PortInputs) (s : State) :
    runCycles p (x :: xs) s = andThen (cycleWith p x s) (runCycles p xs) := rfl

theorem runCycles_append (p : Config.Params) (xs ys : List PortInputs) (s : State) :
    runCycles p (xs ++ ys) s = andThen (runCycles p xs s) (runCycles p ys) := by
  induction xs generalizing s with
  | nil => rfl
  | cons x xs ih =>
    simp only [List.cons_append, runCycles_cons]
    cases cycleWith p x s with
    | next t => exact ih t
    | fault f => rfl
    | refused r => rfl

end Sys2Proof.Machine
end

