-- ==== Sys2Proof/Laws/Decode.lean ====
section
/-!
SUPPORT. The bits of the five command-word formats (30_encoding.md R68), one lemma per format, so that no proof about an encoding
takes a concatenation apart.
-/

namespace Sys2Proof

theorem wordF0_getLsbD (op : Byte) (k : Nat) :
    (wordF0 op).getLsbD k = if k < 24 then false else op.getLsbD (k - 24) := by
  refine (BitVec.getLsbD_append (x := op) (y := 0#24) (i := k)).trans ?_
  simp

theorem wordFM_getLsbD (op : Byte) (mask : ChannelMask) (k : Nat) :
    (wordFM op mask).getLsbD k =
      if k < 18 then mask.getLsbD k else if k < 24 then false else op.getLsbD (k - 24) := by
  have h := BitVec.getLsbD_append (x := op ++ 0#6) (y := mask) (i := k)
  refine h.trans ?_
  have h2 := BitVec.getLsbD_append (x := op) (y := 0#6) (i := k - 18)
  rw [h2]
  by_cases hk : k < 18
  · simp [hk]
  · by_cases hj : k < 24
    · simp [hk, hj, show k - 18 < 6 by omega]
    · simp [hk, hj, show ¬ k - 18 < 6 by omega, Nat.sub_sub]

theorem wordFC_getLsbD (op r g b : Byte) (k : Nat) :
    (wordFC op r g b).getLsbD k =
      if k < 8 then b.getLsbD k else if k < 16 then g.getLsbD (k - 8)
      else if k < 24 then r.getLsbD (k - 16) else op.getLsbD (k - 24) := by
  have h := BitVec.getLsbD_append (x := op ++ r ++ g) (y := b) (i := k)
  have h2 := BitVec.getLsbD_append (x := op ++ r) (y := g) (i := k - 8)
  have h3 := BitVec.getLsbD_append (x := op) (y := r) (i := k - 8 - 8)
  refine h.trans ?_
  rw [h2, h3]
  by_cases hk : k < 8
  · simp [hk]
  · by_cases hj : k < 16
    · simp [hk, hj, show k - 8 < 8 by omega]
    · by_cases hl : k < 24
      · simp [hk, hj, hl, show ¬ k - 8 < 8 by omega, show k - 16 < 8 by omega, Nat.sub_sub]
      · simp [hk, hj, hl, show ¬ k - 8 < 8 by omega, show ¬ k - 16 < 8 by omega, Nat.sub_sub]

theorem wordFS_getLsbD (op : Byte) (m : BitVec 1) (speed : Duty) (k : Nat) :
    (wordFS op m speed).getLsbD k =
      if k < 16 then speed.getLsbD k else if k = 16 then m.getLsbD 0
      else if k < 24 then false else op.getLsbD (k - 24) := by
  have h := BitVec.getLsbD_append (x := op ++ 0#7 ++ m) (y := speed) (i := k)
  have h2 := BitVec.getLsbD_append (x := op ++ 0#7) (y := m) (i := k - 16)
  have h3 := BitVec.getLsbD_append (x := op) (y := 0#7) (i := k - 16 - 1)
  refine h.trans ?_
  rw [h2, h3]
  by_cases hk : k < 16
  · simp [hk]
  · by_cases hj : k = 16
    · subst hj; simp
    · by_cases hl : k < 24
      · simp [hk, hj, hl, show ¬ k - 16 < 1 by omega, show k - 17 < 7 by omega, Nat.sub_sub]
      · simp [hk, hj, hl, show ¬ k - 16 < 1 by omega, show ¬ k - 17 < 7 by omega, Nat.sub_sub]

theorem wordFI_getLsbD (op : Byte) (btn : BitVec 2) (intensity : Duty) (k : Nat) :
    (wordFI op btn intensity).getLsbD k =
      if k < 16 then intensity.getLsbD k else if k < 18 then btn.getLsbD (k - 16)
      else if k < 24 then false else op.getLsbD (k - 24) := by
  have h := BitVec.getLsbD_append (x := op ++ 0#6 ++ btn) (y := intensity) (i := k)
  have h2 := BitVec.getLsbD_append (x := op ++ 0#6) (y := btn) (i := k - 16)
  have h3 := BitVec.getLsbD_append (x := op) (y := 0#6) (i := k - 16 - 2)
  refine h.trans ?_
  rw [h2, h3]
  by_cases hk : k < 16
  · simp [hk]
  · by_cases hj : k < 18
    · simp [hk, hj, show k - 16 < 2 by omega]
    · by_cases hl : k < 24
      · simp [hk, hj, hl, show ¬ k - 16 < 2 by omega, show k - 18 < 6 by omega, Nat.sub_sub]
      · simp [hk, hj, hl, show ¬ k - 16 < 2 by omega, show ¬ k - 18 < 6 by omega, Nat.sub_sub]

/-- The button and motor fields read back what they were written from (R71, R73). -/
@[simp] theorem buttonOfBits_bits (btn : Button) : buttonOfBits btn.bits = btn := by
  cases btn <;> rfl
@[simp] theorem motorOfBits_bits (m : Motor) : motorOfBits m.bits = m := by
  cases m <;> rfl

/-- A row takes a word exactly when the fixed bits agree (R76). -/
theorem takes_iff (r : OpcodeRow) (w : Word) : r.takes w = true ↔ w &&& r.mask = r.value := by
  simp [OpcodeRow.takes]

end Sys2Proof
end

