-- ==== Sys2Proof/Laws/PerInstr.lean ====
section
/-!
SUPPORT. Statements made for every command, one lemma per constructor of `Instr`.
-/

namespace Sys2Proof.Laws.OpcodeField

/-- Bits 31:24 of the command word are the opcode of the command (R67). -/
def Statement (i : Instr) : Prop := (encode i).extractLsb' 24 8 = i.opcode

theorem wordF0_opcode (op : Byte) : (wordF0 op).extractLsb' 24 8 = op := by
  ext k hk
  have : (wordF0 op).getLsbD (24 + k) = op.getLsbD k := by rw [wordF0_getLsbD, if_neg (by omega)]; congr 1; omega
  simpa [hk] using this

theorem ledReset : Statement .ledReset := wordF0_opcode _
theorem ledEnable : Statement .ledEnable := wordF0_opcode _
theorem ledDisable : Statement .ledDisable := wordF0_opcode _
theorem ledOutput : Statement .ledOutput := wordF0_opcode _
theorem btnLightsClear : Statement .btnLightsClear := wordF0_opcode _
theorem motorForward : Statement .motorForward := wordF0_opcode _
theorem motorBackward : Statement .motorBackward := wordF0_opcode _
theorem motorStop : Statement .motorStop := wordF0_opcode _
theorem range : Statement .range := wordF0_opcode _
theorem ulClear : Statement .ulClear := wordF0_opcode _
theorem ulShow : Statement .ulShow := wordF0_opcode _

theorem ledSetMask (mask : ChannelMask) : Statement (.ledSetMask mask) := by
  unfold Statement encode; ext k hk
  simp only [BitVec.getElem_extractLsb', wordFM_getLsbD]
  simp [hk, show ¬ 24 + k < 24 by omega, show ¬ 24 + k < 18 by omega]

theorem btnLight (btn : Button) (intensity : Duty) : Statement (.btnLight btn intensity) := by
  unfold Statement encode; ext k hk
  simp only [BitVec.getElem_extractLsb', wordFI_getLsbD]
  simp [hk, show ¬ 24 + k < 24 by omega, show ¬ 24 + k < 18 by omega, show ¬ 24 + k < 16 by omega]

theorem motorSet (motor : Motor) (speed : Duty) : Statement (.motorSet motor speed) := by
  unfold Statement encode; ext k hk
  simp only [BitVec.getElem_extractLsb', wordFS_getLsbD]
  simp [hk, show ¬ 24 + k < 24 by omega, show ¬ 24 + k < 16 by omega, show 24 + k ≠ 16 by omega]

theorem ulSet (r g b : Byte) : Statement (.ulSet r g b) := by
  unfold Statement encode; ext k hk
  simp only [BitVec.getElem_extractLsb', wordFC_getLsbD]
  simp [hk, show ¬ 24 + k < 24 by omega, show ¬ 24 + k < 16 by omega, show ¬ 24 + k < 8 by omega]

end Sys2Proof.Laws.OpcodeField
end

