-- ==== Sys2Proof/Tests/Slice0.lean ====
section
/-!
SUPPORT. Tests with expected values from the spec (95_test_vectors.md and the rules named), and for each statement of
Obligations.lean with hypotheses a witness that meets them, `witness_<Name>`.
-/

namespace Sys2Proof.Tests

open Sys2Proof.Machine

/-! ### Helpers -/

/-- Parameters for tests: P_CLK_PER_US = 1, no timeout. -/
def testParams : Config.Params :=
  { clkPerUsPred := 0, busAddr := 0x54, regEnableOutput := 0x00, regPwm := 0x01, regEnableChannels := 0x13,
    regUpdate := 0x16, regReset := 0x17, enOn := 0x01, enOff := 0x00, motorPwm := ⟨1, one_pos⟩,
    lightPwm := ⟨1, one_pos⟩ }

/-- The same with P_CLK_PER_US = 4. -/
def slowParams : Config.Params := { testParams with clkPerUsPred := 3 }

/-- The same with P_ECHO_TIMEOUT_US = 2. -/
def timeoutParams : Config.Params := { testParams with echoTimeoutUs := 2 }

/-- After reset and a successful initialisation step. -/
def idleState : State := { State.reset with initDone := true, busy := false }

/-- After reset and a failed initialisation step. -/
def failedState : State := { idleState with initFailed := true }

/-- With a bus command of three transactions in flight. -/
def busState : State := { idleState with busy := true, bValid := true, cur := 0x52000000 }

/-- With a measurement in flight that waits for the echo's rise. -/
def awaitingState : State := { idleState with busy := true, rstate := .awaitStart, cur := 0x40000000 }

/-- With a measurement in flight that waits for the echo's fall. -/
def measuringState : State :=
  { idleState with busy := true, rstate := .awaitEnd, cur := 0x40000000, hcount := 1 }

/-- The outcome is a next state with the property. -/
def nextHas (o : Result) (f : State → Bool) : Bool :=
  match o with
  | .next t => f t
  | .fault _ => false
  | .refused _ => false

/-- The word is accepted from the state with the property. -/
def accepts (w : Word) (s : State) (f : State → Bool) : Bool := nextHas (acceptWord w s) f

/-! ### Decoding, word by word, from 30_encoding.md R68 to R77 -/

theorem test_decode_led_reset : decode 0b00010000000000000000000000000000#32 = some .ledReset := by decide
theorem test_decode_led_enable : decode 0b00010001000000000000000000000000#32 = some .ledEnable := by decide
theorem test_decode_led_disable : decode 0b00010010000000000000000000000000#32 = some .ledDisable := by decide
theorem test_decode_led_set_mask :
    decode 0b00010011000000010010001101000101#32 = some (.ledSetMask 0b010010001101000101) := by decide
theorem test_decode_led_output : decode 0b00010100000000000000000000000000#32 = some .ledOutput := by decide
theorem test_decode_btn_light_x :
    decode 0b00100000000000100010000000000001#32 = some (.btnLight .x 0b0010000000000001) := by decide
theorem test_decode_btn_light_y : decode 0x20030000#32 = some (.btnLight .y 0) := by decide
theorem test_decode_btn_light_b : decode 0x20011000#32 = some (.btnLight .b 0x1000) := by decide
theorem test_decode_btn_lights_clear : decode 0b00100001000000000000000000000000#32 = some .btnLightsClear := by decide
theorem test_decode_motor_set_right :
    decode 0b00110000000000011111000000000000#32 = some (.motorSet .right 0b1111000000000000) := by decide
theorem test_decode_motor_set_left : decode 0x3000C001#32 = some (.motorSet .left 0xC001) := by decide
theorem test_decode_motor_forward : decode 0b00110001000000000000000000000000#32 = some .motorForward := by decide
theorem test_decode_motor_backward : decode 0b00110010000000000000000000000000#32 = some .motorBackward := by decide
theorem test_decode_motor_stop : decode 0b00110011000000000000000000000000#32 = some .motorStop := by decide
theorem test_decode_range : decode 0b01000000000000000000000000000000#32 = some .range := by decide
theorem test_decode_ul_set :
    decode 0b01010000000010100001010000011110#32 = some (.ulSet 0b00001010 0b00010100 0b00011110) := by decide
theorem test_decode_ul_clear : decode 0b01010001000000000000000000000000#32 = some .ulClear := by decide
theorem test_decode_ul_show : decode 0b01010010000000000000000000000000#32 = some .ulShow := by decide

/-- 95_test_vectors.md 2.3 and 2.9: the ILLEGAL words. -/
theorem test_illegal_words :
    [0x10000001#32, 0x00000000#32, 0xFF000000#32, 0x15000000#32, 0x41000000#32, 0x40800000#32, 0x13040000#32,
      0x30020000#32, 0x20040000#32, 0x53000000#32, 0x3002C001#32].all (fun w => decode w == none) = true := by decide

/-- The decoder takes a row's word from the table's own numbering. -/
theorem test_decodeTableWord : decodeTableWord 32 0x500A141E = some (.ulSet 10 20 30) := by decide

/-- The mnemonics of the table's rows, in its order (R75). -/
theorem test_mnemonics : opcodeTable.map (fun r => r.mnemonic) =
    ["LED_RESET", "LED_ENABLE", "LED_DISABLE", "LED_SET_MASK", "LED_OUTPUT", "BTN_LIGHT", "BTN_LIGHTS_CLEAR",
      "MOTOR_SET", "MOTOR_FORWARD", "MOTOR_BACKWARD", "MOTOR_STOP", "RANGE", "UL_SET", "UL_CLEAR", "UL_SHOW"] := by
  decide

/-! ### WellFormed: an ill-formed term for each check -/

theorem test_motorSet_above_range_refused : (Instr.motorSet .left 0x4001).wellFormed = false := by decide
theorem test_motorSet_below_range_refused : (Instr.motorSet .right 0xBFFF).wellFormed = false := by decide
theorem test_motorSet_limits_legal :
    (Instr.motorSet .left 0x4000).wellFormed && (Instr.motorSet .left 0xC000).wellFormed = true := by decide
theorem test_btnLight_above_range_refused : (Instr.btnLight .a 0x4001).wellFormed = false := by decide
theorem test_btnLight_limit_legal : (Instr.btnLight .a 0x4000).wellFormed = true := by decide

/-! ### The commands, from 95_test_vectors.md 2.2 to 2.9 -/

/-- 95_test_vectors.md 2.4: S, MOTOR_L. -/
theorem test_motor_set_words :
    [(0x4000, 0x00004000), (0x3FFF, 0x00014000), (0x2000, 0x20004000), (0x1000, 0x30004000), (0x0001, 0x3FFF4000),
      (0x0000, 0x40004000), (0xFFFF, 0x40003FFF), (0xF000, 0x40003000), (0xE000, 0x40002000), (0xC001, 0x40000001),
      (0xC000, 0x40000000)].all (fun (v, expected) =>
        accepts (0x30000000#32 ||| BitVec.ofNat 32 v) idleState fun t =>
          memRead 5 t == BitVec.ofNat 32 expected && memRead 6 t == 0 && memRead 1 t == 0x100) = true := by decide

/-- 95_test_vectors.md 2.4: speeds out of range leave STATUS with OPERAND alone. -/
theorem test_motor_set_out_of_range :
    [0x4001, 0x7FFF, 0x8000, 0xBFFF].all (fun v =>
      accepts (0x30000000#32 ||| BitVec.ofNat 32 v) idleState fun t =>
        memRead 5 t == 0 && memRead 1 t == 0x20) = true := by decide

theorem test_motor_forward : accepts 0x31000000 idleState (fun t =>
    memRead 5 t == 0x00004000 && memRead 6 t == 0x00004000 && t.motorEn) = true := by decide
theorem test_motor_backward : accepts 0x32000000 idleState (fun t =>
    memRead 5 t == 0x40000000 && memRead 6 t == 0x40000000 && t.motorEn) = true := by decide
theorem test_motor_stop : accepts 0x33000000 idleState (fun t =>
    memRead 5 t == 0x40004000 && memRead 6 t == 0x40004000 && t.motorEn) = true := by decide

/-- 95_test_vectors.md 2.5: the light of the selected button, in its half of its register. -/
theorem test_btn_light : (accepts 0x20011000 idleState (fun t => memRead 7 t == 0x10000000 && memRead 8 t == 0) &&
    accepts 0x20022000 idleState (fun t => memRead 8 t == 0x00002000 && memRead 7 t == 0)) = true := by decide
theorem test_btn_light_out_of_range : accepts 0x20034001 idleState (fun t =>
    memRead 8 t == 0 && t.lastErr == .operand) = true := by decide
theorem test_btn_lights_clear :
    accepts 0x21000000 (idleState) (fun t => memRead 7 t == 0 && memRead 8 t == 0 && t.lastErr == .ok) = true := by
  decide

/-- 95_test_vectors.md 2.2: LED_MASK and the three payload bytes of 0x12345. -/
theorem test_led_set_mask : accepts 0x13012345 idleState (fun t =>
    memRead 9 t == 0x12345 && (outputs testParams t).bData == 0x120D05 && (outputs testParams t).bLen == 3) = true := by
  decide
theorem test_pack3_channel_17 : pack3 0x20000 = [0x00, 0x00, 0x20] := by decide

/-- R92 to R94: the transaction that LED_RESET, LED_ENABLE and LED_DISABLE present. -/
theorem test_led_reset : accepts 0x10000000 idleState (fun t =>
    (outputs testParams t).bReg == 0x17 && (outputs testParams t).bData == 0xFF && t.ledMask == 0x3FFFF) = true := by
  decide
theorem test_led_enable : accepts 0x11000000 idleState (fun t =>
    (outputs testParams t).bReg == 0x00 && (outputs testParams t).bData == 0x01) = true := by decide
theorem test_led_disable : accepts 0x12000000 idleState (fun t =>
    (outputs testParams t).bReg == 0x00 && (outputs testParams t).bData == 0x00 && t.bValid) = true := by decide

/-- R96 and R86 (f): an all-zero buffer is sent as eighteen bytes 1. -/
theorem test_led_output : accepts 0x14000000 idleState (fun t =>
    (outputs testParams t).bData == 0x010101010101010101010101010101010101#144) = true := by decide

/-- 95_test_vectors.md E8: UL_BUF0, UL_BUF1 and UL_BUF4 of UL_SET 10, 20, 30. -/
theorem test_ul_set : accepts 0x500A141E idleState (fun t =>
    memRead 10 t == 0x0A1E140A && memRead 11 t == 0x140A1E14 && memRead 14 t == 0x00001E14) = true := by decide
/-- E8: the payload [1, 2, 2] x 6. -/
theorem test_ul_set_payload : accepts 0x500A141E idleState (fun t =>
    (outputs testParams t).bData == 0x020201020201020201020201020201020201#144) = true := by decide
theorem test_ul_clear : accepts 0x51000000 { idleState with ulBuf := replicateColour 1 2 3 } (fun t =>
    memRead 10 t == 0 && memRead 14 t == 0 && t.busy && (outputs testParams t).bReg == 0x00) = true := by decide
theorem test_ul_show : accepts 0x52000000 { idleState with ulBuf := replicateColour 255 0 128 } (fun t =>
    memRead 10 t == 0xFF8000FF && memRead 12 t == 0x8000FF80 && t.cur == 0x52000000) = true := by decide

/-- 95_test_vectors.md 2.6: STATUS in the first cycle of a measurement. -/
theorem test_range : accepts 0x40000000 idleState (fun t => memRead 1 t == 0x601) = true := by decide
/-- 95_test_vectors.md 2.6, G4: the tick on which the echo falls. -/
theorem test_range_completes :
    nextHas (cycleWith testParams PortInputs.quiet measuringState) (fun t =>
      memRead 1 t == 4 && t.rangeUs == 1 && t.rangeDist == 17) = true := by decide

/-- 95_test_vectors.md 2.6: the saturation of the distance. -/
theorem test_distance_saturates : rangeDistance 252645134 = 0xFFFFFFEE ∧ rangeDistance 252645135 = 0xFFFFFFFF ∧
    rangeDistance 252645136 = 0xFFFFFFFF := by decide

/-- 95_test_vectors.md 2.1: points of the gamma table. -/
theorem test_lut : [0, 1, 2, 19, 20, 43, 44, 63, 64, 100, 127, 128, 168, 169, 170, 200, 254, 255].map
    (fun v => lut (BitVec.ofNat 8 v)) = [1, 1, 1, 1, 2, 2, 3, 4, 4, 9, 15, 16, 38, 39, 39, 76, 244, 250] := by decide

/-- 95_test_vectors.md 2.9: the priority of the errors. -/
theorem test_error_priority :
    (accepts 0x31000000 failedState (fun t => memRead 1 t == 0x52 && memRead 5 t == 0) &&
      accepts 0x00000000 failedState (fun t => t.lastErr == .notReady) &&
      accepts 0x3002C001 idleState (fun t => t.lastErr == .illegal) &&
      accepts 0x30008000 idleState (fun t => t.lastErr == .operand)) = true := by decide

/-- 95_test_vectors.md 2.8: a failing T_UPDATE leaves STATUS = 0x38. -/
theorem test_bus_failure :
    nextHas (cycleWith testParams (busAnswer false) { busState with seq := 1 }) (fun t => memRead 1 t == 0x38) = true := by
  decide

/-- 95_test_vectors.md 2.9: STATUS after initialisation. -/
theorem test_initialisation :
    (memRead 1 State.reset == 1 &&
      nextHas (cycleWith testParams PortInputs.quiet State.reset) (fun t => memRead 1 t == 0) &&
      nextHas (cycleWith testParams { PortInputs.quiet with periphReady := false } State.reset)
        (fun t => memRead 1 t == 2)) = true := by decide

/-- 95_test_vectors.md 2.5: the latch after btn_n = 0b0110. -/
theorem test_button_latch :
    nextHas (cycleWith testParams { PortInputs.quiet with btnN := 0b0110 } idleState)
      (fun t => memRead 2 t == 9 && isPressed .a t && !isPressed .b t && isPressed .y t) = true := by decide

/-- A word presented after reset is accepted by the next step. -/
theorem test_withFetchWord : nextHas (step (State.reset.withFetchWord 32 0x31000000))
    (fun t => t.motorEn && t.dutyLA == 0x4000 && t.dutyRB == 0) = true := by decide

/-! ### The assembler and the host (30_encoding.md R81 to R83) -/

theorem test_assembler_refuses_inexact : assemble (.motorSet .left (.decimal 1 1)) = none := by decide
theorem test_pseudo_commands : assemble (motorBrake .right) = some 0x30010000#32 ∧
    assemble (btnLightOff .x) = some 0x20020000#32 ∧ assemble ledMaskAll = some 0x1303FFFF#32 := by decide

/-- R158, step 2: the boot program loops on line 0 while BUSY reads 1, and goes on when it reads 0. -/
theorem test_boot_waits :
    (hostAdvance bootProgram false none ⟨2, Vector.replicate 8 1⟩).line = 0 ∧
    (hostAdvance bootProgram false none ⟨2, Vector.replicate 8 0⟩).line = 3 := by decide

/-- R163: step 2 of the re-synchronisation is either of the two outputs. -/
theorem test_resync_choice :
    (resyncProgram 0x3FFFF false true).getD 7 .halt = .command 0x14000000 ∧
    (resyncProgram 0x3FFFF true true).getD 7 .halt = .command 0x52000000 ∧
    (resyncProgram 0x3FFFF true true).getD 21 .halt = clrBusFault := by decide

/-- R52, R155: h_ready is 0 in an idle cycle with rst = 1. -/
theorem test_idle_ready_in_reset : hReady { PortInputs.quiet with rst := true } idleState = some false := by decide

/-- A host line is driven onto the port (R82). -/
theorem test_host_drives : (driveRequest bootProgram ⟨6, Vector.replicate 8 0⟩ PortInputs.quiet).hWdata =
    0x10000000 ∧ (systemCycle testParams bootProgram PortInputs.quiet ⟨6, Vector.replicate 8 0⟩ idleState).1.line = 7 := by
  decide

/-! ### Witnesses: a concrete state and operands that meet the hypotheses of each statement -/

/-- A state of the kind `State.Idle` asks for. -/
theorem idleState_idle : idleState.Idle := ⟨rfl, rfl, rfl, rfl⟩

/-- A legal state with nothing in flight. -/
theorem idleState_inv : idleState.Inv testParams := by
  refine ⟨?_, ?_⟩ <;> constructor <;> decide

/-- A legal state with a bus command in flight. -/
theorem busState_inv : busState.Inv testParams := by
  refine ⟨?_, ?_⟩ <;> constructor <;> decide

/-- A legal state in AWAIT_START. -/
theorem awaitingState_inv : awaitingState.Inv slowParams := by
  refine ⟨?_, ?_⟩ <;> constructor <;> decide

/-- A legal state in AWAIT_END. -/
theorem measuringState_inv : measuringState.Inv slowParams := by
  refine ⟨?_, ?_⟩ <;> constructor <;> decide

theorem witness_EncodeReturnsDecodedWord : decode 0x30012000#32 = some (.motorSet .right 0x2000) := by decide

theorem witness_IllegalWordsAreUnassignedOrReserved :
    decode 0x53000000#32 = none ∧ decode 0x13040000#32 = none ∧ idleState.initFailed = false := by decide

theorem witness_DecodeIsTheUniqueRow :
    (∃ r ∈ opcodeTable, 0x3001FFFF#32 &&& r.mask = r.value) ∧
    (∀ r ∈ opcodeTable, 0x00000000#32 &&& r.mask ≠ r.value) ∧
    (opcodeTable[(7 : Fin 15)]).takes 0x3001FFFF#32 = true := by decide

theorem witness_WorkedEncodings : idleState.initFailed = false := rfl

theorem witness_AssemblerNeverRounds :
    assemble (.motorSet .left (.decimal 10 1)) = some 0x30004000#32 ∧ ((10 : Int) ^ 1 < 11 ∧ -11 < -(10 : Int) ^ 1) := by
  decide

/-- The state of `withFetchWord` is one that the statement is about. -/
theorem witness_StepRunsDecodedCommand :
    let s := State.reset.withFetchWord 32 0x31000000
    s.Idle ∧ s.pins.rst = false ∧ s.pins.hRd = false ∧ s.pins.hWr = true ∧ s.pins.hAddr = 0 ∧
      decode s.pins.hWdata = some .motorForward :=
  ⟨⟨rfl, rfl, rfl, rfl⟩, by decide⟩

theorem witness_CommandWriteStallsWhileBusy :
    let x := cmdWrite 0x31000000
    x.rst = false ∧ x.hRd = false ∧ x.hWr = true ∧ x.hAddr = 0 ∧ State.reset.busy = true := by decide

theorem witness_HostReadHasNoSideEffect :
    let x := { PortInputs.quiet with hRd := true, hAddr := 1 }
    x.rst = false ∧ x.hRd = true ∧ x.hWr = false := by decide

theorem witness_NoTransferDuringReset :
    { PortInputs.quiet with rst := true }.rst = true ∧ { cmdWrite 0x31000000 with rst := true }.rst = true := by decide

/-- The write to STATUS, in a cycle in which a transaction fails and in one in which none does. -/
theorem witness_StatusRegister :
    let x := { PortInputs.quiet with hWr := true, hAddr := 1, hWdata := 8, bDone := true }
    x.rst = false ∧ x.hRd = false ∧ x.hWr = true ∧ x.hAddr = 1 ∧
      (busState.bValid && x.bDone && !x.bOk) = true ∧ (idleState.bValid && x.bDone && !x.bOk) = false := by decide

/-- The first and the last unmapped address, and the first and the last address of an ignored write. -/
theorem witness_UnmappedOffsetsReadZero :
    15 ≤ (15#6).toNat ∧ 15 ≤ (63#6).toNat ∧ 2 ≤ (2#6).toNat ∧ (0xFFFFFFF7#32).getLsbD 3 = (0#32).getLsbD 3 ∧
    (let x := { PortInputs.quiet with hWr := true, hAddr := 2 }
     x.rst = false ∧ x.hRd = false ∧ x.hWr = true) := by decide

theorem witness_ResetEdgeGivesResetValues :
    let x := { cmdWrite 0x31000000 with rst := true }
    requestLegal x = true ∧ x.rst = true := by decide

/-- A CMD write in the first cycle, and the next state of the last clause. -/
theorem witness_InitialisationStep :
    let x := cmdWrite 0x31000000
    requestLegal x = true ∧ x.rst = false ∧ x.hRd = false ∧ x.hWr = true ∧ x.hAddr = 0 ∧
      ∃ t, cycleWith testParams x State.reset = .next t :=
  ⟨rfl, rfl, rfl, rfl, rfl, _, rfl⟩

theorem witness_FailedInitialisationAnswersNotReady :
    failedState.initFailed = true ∧ failedState.initDone = true ∧ PortInputs.quiet.rst = false ∧
      ∃ t, cycleWith testParams PortInputs.quiet failedState = .next t :=
  ⟨rfl, rfl, rfl, _, rfl⟩

/-- A legal state and its next state, of the cycle and of the step. -/
theorem witness_StepKeepsLegalStates :
    (idleState.Inv testParams ∧ ∃ t, cycleWith testParams (cmdWrite 0x52000000) idleState = .next t) ∧
    (let s := { State.reset with inputs := [PortInputs.quiet] }
     s.Inv Config.params ∧ ∃ t, step s = .next t) := by
  refine ⟨⟨idleState_inv, _, rfl⟩, ⟨?_, ?_⟩, _, rfl⟩
  · constructor <;> decide
  · constructor
    case prescRange => exact Nat.zero_le _
    all_goals decide

/-- A state that a run reaches, past the initialisation step and a command. -/
theorem witness_ReachableStatesSatisfyInvariants : ∃ t, Reachable testParams t ∧ t.motorEn = true :=
  ⟨_, .afterCycle (cmdWrite 0x31000000) (.afterCycle PortInputs.quiet .atReset rfl) rfl, rfl⟩

theorem witness_LegalStatesNeverStop :
    busState.Inv testParams ∧ requestLegal (busAnswer true) = true := ⟨busState_inv, rfl⟩

theorem witness_BusCommandsWithoutOperandStart : idleState.initFailed = false := rfl

theorem witness_LedSetMaskStarts : idleState.initFailed = false := rfl

theorem witness_UnderlightCommandsStart : idleState.initFailed = false := rfl

theorem witness_BtnLightSetsOneLight :
    idleState.initFailed = false ∧
      (Button.b, (1 : Fin 4)) ∈ [(Button.a, (0 : Fin 4)), (.b, 1), (.x, 2), (.y, 3)] ∧
      (0x4000 : Duty).toNat ≤ 0x4000 ∧ 0x4000 < (0x4001 : Duty).toNat ∧
      0x4000 < (0xFFFF : Duty).toNat := by decide

theorem witness_BtnLightsClearTurnsAllOff : idleState.initFailed = false := rfl

theorem witness_MotorSetDrivesOneMotor :
    idleState.initFailed = false ∧ -16384 ≤ (0xC000 : Duty).toInt ∧ (0x4000 : Duty).toInt ≤ 16384 ∧
      16384 < (0x4001 : Duty).toInt ∧ (0xBFFF : Duty).toInt < -16384 ∧ (0x8000 : Duty).toInt < -16384 := by decide

/-- Each of the three clauses at its boundary, and both ends of the range. -/
theorem witness_DualDutyMapping :
    (-16384 : Int) ≤ 1 ∧ (1 : Int) > 0 ∧ (-16384 : Int) ≤ -1 ∧ (-1 : Int) < 0 ∧ (-16384 : Int) ≤ 0 ∧
      (16384 : Int) ≤ 16384 := by decide

theorem witness_FixedSpeedCommands : idleState.initFailed = false := rfl

theorem witness_RangeStarts : idleState.initFailed = false := rfl

theorem witness_FixedSpeedIsTwoMotorSets :
    idleState.initFailed = false ∧
    (Instr.motorBackward, (0xC000 : Duty)) ∈ [(Instr.motorForward, (0x4000 : Duty)), (.motorBackward, 0xC000),
      (.motorStop, 0)] := by decide

/-- One next state for each answer: NOT_READY, ILLEGAL, OPERAND, OK at once, and a command that runs. -/
theorem witness_AcceptanceErrorPriority :
    (∃ t, acceptWord 0x31000000 failedState = .next t) ∧ (∃ t, acceptWord 0 idleState = .next t) ∧
    (∃ t, acceptWord 0x30008000 idleState = .next t) ∧ (∃ t, acceptWord 0x31000000 idleState = .next t) ∧
    (∃ t, acceptWord 0x40000000 idleState = .next t ∧ decode 0x40000000 = some .range ∧
      Instr.range.wellFormed = true) :=
  ⟨⟨_, rfl⟩, ⟨_, rfl⟩, ⟨_, rfl⟩, ⟨_, rfl⟩, _, rfl, rfl, rfl⟩

theorem witness_AcceptanceErrorsArePrecise :
    (failedState.busy = false ∧ failedState.initFailed = true ∧ ∃ t, acceptWord 0x31000000 failedState = .next t) ∧
    (idleState.busy = false ∧ decode 0 = none ∧ ∃ t, acceptWord 0 idleState = .next t) ∧
    (∃ t, acceptWord 0x30008000 idleState = .next t ∧ decode 0x30008000 = some (.motorSet .left 0x8000) ∧
      (Instr.motorSet .left 0x8000).wellFormed = false) :=
  ⟨⟨rfl, rfl, _, rfl⟩, ⟨rfl, rfl, _, rfl⟩, _, rfl, rfl, rfl⟩

/-- The boundary indices of the two ranges of (g). -/
theorem witness_GammaTableProperties :
    (0 : Fin 256).val ≤ 19 ∧ (19 : Fin 256).val ≤ 19 ∧ 20 ≤ (20 : Fin 256).val ∧ (43 : Fin 256).val ≤ 43 := by decide

theorem witness_OutputPortsCopyState :
    idleState.bValid = false ∧ busState.bValid = true ∧ currentTxn busState = some .pwm := by decide

/-- No answer, a failure, a success with transactions left, and a success of the last one. -/
theorem witness_BusSequencerCycle :
    let last := { busState with seq := 2 }
    let q := PortInputs.quiet
    let n := busAnswer false
    let y := busAnswer true
    (q.rst = false ∧ q.hRd = false ∧ q.hWr = false ∧ q.bDone = false) ∧
    (n.rst = false ∧ n.hRd = false ∧ n.hWr = false ∧ n.bDone = true ∧ n.bOk = false) ∧
    (y.rst = false ∧ y.hRd = false ∧ y.hWr = false ∧ y.bDone = true ∧ y.bOk = true) ∧
    (busState.initDone = true ∧ busState.rstate = .idle ∧ busState.bValid = true ∧ currentTxn busState = some .pwm ∧
      busState.seq.toNat + 1 < (curTxns busState.cur).length) ∧
    (currentTxn last = some .on ∧ (curTxns last.cur).length ≤ last.seq.toNat + 1) := by decide

theorem witness_AnswersIgnoredWithoutRequest : awaitingState.bValid = false := rfl

/-- A command of three transactions with different waits, and the first and the last cycle in which it is busy. -/
theorem witness_BusCommandCompletes :
    idleState.Idle ∧ idleState.initFailed = false ∧ isBusCommand .ulShow = true ∧
      [2, 0, 1].length = (txns .ulShow).length ∧
      (let draws := cmdWrite (encode .ulShow) :: answersOk [2, 0, 1]
       1 < draws.length ∧ 6 < draws.length) :=
  ⟨idleState_idle, by decide⟩

/-- A failure of the second transaction of three, of the first, and of the only one. -/
theorem witness_BusCommandFails :
    idleState.Idle ∧ idleState.initFailed = false ∧ [3].length < (txns (.ulSet 10 20 30)).length ∧
      ([] : List Nat).length < (txns (.ulSet 10 20 30)).length ∧ ([] : List Nat).length < (txns .ledReset).length :=
  ⟨idleState_idle, by decide⟩

theorem witness_RepeatedOutputSendsSameBytes :
    let other := { idleState with motorEn := true, busFault := true }
    idleState.Idle ∧ other.Idle ∧ idleState.initFailed = false ∧ other.initFailed = false ∧
      idleState.ulBuf = other.ulBuf ∧ Instr.ulShow ∈ [Instr.ledOutput, .ulShow] ∧
      [0, 1, 2].length = (txns .ulShow).length ∧ [2, 0, 0].length = (txns .ulShow).length :=
  ⟨idleState_idle, ⟨rfl, rfl, rfl, rfl⟩, by decide⟩

theorem witness_UnderlightClearTwice : idleState.Idle ∧ idleState.initFailed = false := ⟨idleState_idle, rfl⟩

theorem witness_ButtonLatchSamplesEveryEdge :
    (∃ t, cycleWith testParams { PortInputs.quiet with btnN := 0 } failedState = .next t) ∧
    (∃ t, cycleWith testParams { PortInputs.quiet with btnN := 0, rst := true } busState = .next t) :=
  ⟨⟨_, rfl⟩, _, rfl⟩

/-- A cycle that accepts a motor command with the enable up, and one that accepts none. -/
theorem witness_OnlyMotorCommandsMoveMotors :
    (∃ t, cycleWith testParams (cmdWrite 0x33000000) { idleState with motorEn := true } = .next t) ∧
    (∃ t, cycleWith testParams (busAnswer true) busState = .next t) ∧
    (cmdWrite 0x33000000).rst = false ∧ (busAnswer true).rst = false :=
  ⟨⟨_, rfl⟩, ⟨_, rfl⟩, rfl, rfl⟩

theorem witness_BuffersChangeOnlyByTheirCommands :
    (cmdWrite 0x500A141E).rst = false ∧ (∃ t, cycleWith testParams (cmdWrite 0x500A141E) idleState = .next t) ∧
    (∃ t, cycleWith testParams (cmdWrite 0x13000001) idleState = .next t) ∧
    (∃ t, cycleWith testParams (cmdWrite 0x20004000) idleState = .next t) :=
  ⟨rfl, ⟨_, rfl⟩, ⟨_, rfl⟩, _, rfl⟩

/-- Each of the three cases. -/
theorem witness_EchoIgnoredOutsideItsTicks :
    idleState.rstate = .idle ∧ { awaitingState with rstate := .triggered }.rstate = .triggered ∧
      awaitingState.presc ≠ slowParams.clkPerUsPred := by decide

theorem witness_HistoryOnlyGrows : ∃ t, cycleWith testParams (cmdWrite 0x40000000) idleState = .next t := ⟨_, rfl⟩

/-- A read, and an accepted CMD write. -/
theorem witness_CompletedTransfersAreRecorded :
    (let x := { PortInputs.quiet with hRd := true, hAddr := 1 }
     x.rst = false ∧ x.hRd = true ∧ ∃ t, cycleWith testParams x idleState = .next t) ∧
    (let x := cmdWrite 0x40000000
     x.rst = false ∧ x.hWr = true ∧ x.hAddr = 0 ∧ idleState.busy = false ∧ transferCompletes x idleState = true ∧
       ∃ t, cycleWith testParams x idleState = .next t) :=
  ⟨⟨rfl, rfl, _, rfl⟩, rfl, rfl, rfl, rfl, rfl, _, rfl⟩

theorem witness_RunFollowsQueuedDraws :
    { idleState with inputs := [cmdWrite 0x40000000, PortInputs.quiet] }.inputs =
      [cmdWrite 0x40000000] ++ [PortInputs.quiet] := rfl

/-- A tick, a cycle that is none, and a cycle outside a measurement. -/
theorem witness_PrescalerCountsCycles :
    (let s := { awaitingState with presc := 3 }
     s.Inv slowParams ∧ s.rstate ≠ .idle ∧ s.presc = slowParams.clkPerUsPred ∧
       ∃ t, cycleWith slowParams PortInputs.quiet s = .next t) ∧
    (awaitingState.Inv slowParams ∧ awaitingState.rstate ≠ .idle ∧ awaitingState.presc ≠ slowParams.clkPerUsPred ∧
       ∃ t, cycleWith slowParams PortInputs.quiet awaitingState = .next t) ∧
    (idleState.Inv testParams ∧ idleState.rstate = .idle ∧
       ∃ t, cycleWith testParams PortInputs.quiet idleState = .next t) := by
  refine ⟨⟨⟨?_, ?_⟩, by decide, rfl, _, rfl⟩, ⟨awaitingState_inv, by decide, by decide, _, rfl⟩, idleState_inv, rfl, _, rfl⟩
    <;> constructor <;> decide

/-- The shortest and the longest sequence of draws, and the last one within the pulse. -/
theorem witness_TriggerPulseIsTenMicroseconds :
    idleState.Idle ∧ idleState.initFailed = false ∧
    (∀ x ∈ List.replicate 10 (cmdWrite 0x31000000), x.rst = false ∧ requestLegal x = true) ∧
    (List.replicate 0 PortInputs.quiet).length < 10 * testParams.clkPerUs ∧
    (List.replicate 9 PortInputs.quiet).length < 10 * testParams.clkPerUs ∧
    (List.replicate 10 PortInputs.quiet).length = 10 * testParams.clkPerUs :=
  ⟨idleState_idle, by decide⟩

/-- Without a timeout, and with a timeout that is just long enough. -/
theorem witness_RangeMeasuresEchoWidth :
    idleState.Idle ∧ idleState.initFailed = false ∧ 0 < 1 ∧ testParams.echoTimeoutUs = 0 ∧
      0 + 1 < timeoutParams.echoTimeoutUs.toNat :=
  ⟨idleState_idle, by decide⟩

/-- The whole timeout in AWAIT_START, and the rising tick as the last one. -/
theorem witness_RangeTimesOut :
    idleState.Idle ∧ idleState.initFailed = false ∧ timeoutParams.echoTimeoutUs ≠ 0 ∧
      2 + 0 = timeoutParams.echoTimeoutUs.toNat ∧ 1 + 1 = timeoutParams.echoTimeoutUs.toNat :=
  ⟨idleState_idle, by decide⟩

/-- The echo that never rises, and the echo that never falls. -/
theorem witness_RangeWithoutEchoHangs :
    (awaitingState.Inv slowParams ∧ slowParams.echoTimeoutUs = 0 ∧ awaitingState.rstate = .awaitStart ∧
      ∀ x ∈ [PortInputs.quiet, cmdWrite 0x31000000], x.rst = false ∧ requestLegal x = true ∧ x.echo = false) ∧
    (measuringState.Inv slowParams ∧ measuringState.rstate = .awaitEnd ∧
      ∀ x ∈ [{ PortInputs.quiet with echo := true }], x.rst = false ∧ requestLegal x = true ∧ x.echo = true) :=
  ⟨⟨awaitingState_inv, by decide⟩, measuringState_inv, by decide⟩

/-- The last width that does not saturate, and the first that does. -/
theorem witness_DistanceOfWidth :
    (252645135#32).toNat ≤ 252645135 ∧ 252645135 < (252645136#32).toNat := by decide

/-- A host that writes to CMD while the block is busy. -/
theorem witness_HostProgramHoldsItsRequest :
    let x' := driveRequest bootProgram ⟨6, Vector.replicate 8 0⟩ PortInputs.quiet
    x'.hWr = true ∧ transferCompletes x' busState = false := by decide

end Sys2Proof.Tests
end

section
/-!
The host-visible registers (10_state.md R23 to R33) and the writes that are no CMD write (20_memory.md R50): what the
fields of STATUS read, which bits are reserved, and that such a write adds its transfer event and, at STATUS, the
write-1-to-clear of BUS_FAULT to the cycle in which the host requests nothing.
-/

namespace Sys2Proof.Machine

/-! ### The register map -/

@[simp] theorem memRead_status (s : State) : memRead 1 s = statusWord s := rfl

theorem regAt_eq_none_iff (a : BitVec 6) : regAt a = none ↔ 15 ≤ a.toNat := List.getElem?_eq_none_iff

theorem memRead_of_unmapped {a : BitVec 6} (h : 15 ≤ a.toNat) (s : State) : memRead a s = 0 := by
  simp [memRead, (regAt_eq_none_iff a).2 h]

/-! ### The fields of STATUS (R25) -/

/-- STATUS with its width written as the sum of the widths of its fields, the form in which the library's lemmas about
concatenation find them. -/
theorem statusWord_eq_cast (s : State) : statusWord s =
    (0#20 ++ s.rstate.bits ++ bit s.trig ++ bit s.motorEn ++ s.lastErr.bits ++
      bit s.busFault ++ bit s.rangeValid ++ bit s.initFailed ++ bit s.busy).cast (by decide) := rfl

@[simp] theorem bit_getElem_zero (v : Bool) : (bit v)[0] = v := by simp [bit]

/-- The flags in the low half-byte of STATUS, bit 0 first. -/
theorem statusWord_lowFlags (s : State) :
    (statusWord s).getLsbD 0 = s.busy ∧ (statusWord s).getLsbD 1 = s.initFailed ∧
      (statusWord s).getLsbD 2 = s.rangeValid ∧ (statusWord s).getLsbD 3 = s.busFault := by
  simp only [statusWord_eq_cast, BitVec.getLsbD_cast, BitVec.getLsbD_append]
  simp

/-- The output levels in bits 8 and 9 of STATUS. -/
theorem statusWord_outputFlags (s : State) :
    (statusWord s).getLsbD 8 = s.motorEn ∧ (statusWord s).getLsbD 9 = s.trig := by
  simp only [statusWord_eq_cast, BitVec.getLsbD_cast, BitVec.getLsbD_append]
  simp

theorem statusWord_lastErr (s : State) : (statusWord s).extractLsb' 4 4 = s.lastErr.bits := by
  simp (disch := decide) only [statusWord_eq_cast, BitVec.extractLsb'_cast, BitVec.extractLsb'_append_eq_of_le]
  exact BitVec.extractLsb'_append_eq_right

theorem statusWord_rstate (s : State) : (statusWord s).extractLsb' 10 2 = s.rstate.bits := by
  simp (disch := decide) only [statusWord_eq_cast, BitVec.extractLsb'_cast, BitVec.extractLsb'_append_eq_of_le]
  exact BitVec.extractLsb'_append_eq_right

/-! ### Reserved bits (R25, R26, R31, R32) -/

theorem statusWord_reserved (s : State) : (statusWord s).extractLsb' 12 20 = 0 := by
  simp (disch := decide) only [statusWord_eq_cast, BitVec.extractLsb'_cast, BitVec.extractLsb'_append_eq_of_le]
  exact BitVec.extractLsb'_zero

theorem memRead_btn_reserved (s : State) : (memRead 2 s).extractLsb' 4 28 = 0 :=
  BitVec.extractLsb'_append_eq_left (a := 0#28) (b := s.btnLatch)

theorem memRead_ledMask_reserved (s : State) : (memRead 9 s).extractLsb' 18 14 = 0 :=
  BitVec.extractLsb'_append_eq_left (a := 0#14) (b := s.ledMask)

theorem ulByte_of_past_buffer {c : Nat} (h : 18 ≤ c) (s : State) : ulByte s c = 0 := by
  simp [ulByte, h]

/-- The last register of UL_BUF holds two bytes only. -/
theorem memRead_ulBuf4 (s : State) : memRead 14 s = 0#16 ++ (ulByte s 17 ++ ulByte s 16) := by
  have h : memRead 14 s = ulByte s 19 ++ ulByte s 18 ++ ulByte s 17 ++ ulByte s 16 := rfl
  rw [h, ulByte_of_past_buffer (by decide), ulByte_of_past_buffer (by decide)]
  exact BitVec.append_assoc

theorem memRead_ulBuf4_reserved (s : State) : (memRead 14 s).extractLsb' 16 16 = 0 := by
  rw [memRead_ulBuf4]
  exact BitVec.extractLsb'_append_eq_left (a := 0#16) (b := ulByte s 17 ++ ulByte s 16)

/-! ### Register writes (R50) -/

theorem registerWrite_status (w : Word) (failing : Bool) (s : State) :
    registerWrite 1 w failing s = { s with busFault := if w.getLsbD 3 then failing else s.busFault } := by
  have hw : registerWrite 1 w failing s = statusWrite w failing s := rfl
  rw [hw, statusWrite]
  split <;> rfl

theorem registerWrite_of_ne_status {a : BitVec 6} (h : a ≠ 1) (w : Word) (failing : Bool) (s : State) :
    registerWrite a w failing s = s := if_neg h

/-- The host writes, outside reset, to an address that is not CMD. -/
structure IsRegisterWrite (x : PortInputs) : Prop where
  outsideReset : x.rst = false
  noRead : x.hRd = false
  write : x.hWr = true
  notCmd : x.hAddr ≠ RegName.cmd.addr

/-- Such a write never stalls, BUSY or not. -/
theorem hReady_of_registerWrite {x : PortInputs} (h : IsRegisterWrite x) (s : State) : hReady x s = some true := by
  simp [hReady, h.outsideReset, h.noRead, h.write, h.notCmd]

theorem hostCycle_of_registerWrite {x : PortInputs} (h : IsRegisterWrite x) (s0 s : State) :
    hostCycle x s0 s = .next (registerWrite x.hAddr x.hWdata (txnFails x s0)
      (record (.hostWrite (byteOffset x.hAddr) x.hWdata) s)) := by
  simp [hostCycle, transferCompletes, hReady_of_registerWrite h, h.noRead, h.notCmd]

/-- No unit reads the host's write request. -/
theorem unitsCycle_without_write (p : Config.Params) (x : PortInputs) (s : State) :
    unitsCycle p { x with hWr := false } s = unitsCycle p x s := rfl

/-- The cycle of such a write is the cycle in which the host requests nothing, and then the write. -/
theorem cycleWith_of_registerWrite {x : PortInputs} (h : IsRegisterWrite x) (p : Config.Params) (s : State) :
    cycleWith p x s = andThen (cycleWith p { x with hWr := false } s) fun t =>
      .next (registerWrite x.hAddr x.hWdata (txnFails x s)
        (record (.hostWrite (byteOffset x.hAddr) x.hWdata) t)) := by
  have hidle : cycleWith p { x with hWr := false } s = unitsCycle p x s :=
    (cycleWith_of_no_request (x := { x with hWr := false }) h.outsideReset h.noRead rfl).trans
      (unitsCycle_without_write p x s)
  rw [hidle, cycleWith_of_legal (by simp [requestLegal, h.noRead]) h.outsideReset]
  simp only [hostCycle_of_registerWrite h]

end Sys2Proof.Machine

namespace Sys2Proof.StateProofs

open Sys2Proof.Machine

/-- Settles O12: the fields by taking STATUS apart, the write by comparing its cycle with the cycle without a request. -/
theorem statusRegister : Obligations.StatusRegister := by
  refine ⟨fun s => ?_, rfl, fun p x s hrst hrd hwr haddr => ?_⟩
  · obtain ⟨hbusy, hfailed, hvalid, hfault⟩ := statusWord_lowFlags s
    obtain ⟨hmotor, htrig⟩ := statusWord_outputFlags s
    refine ⟨hbusy, hfailed, hvalid, hfault, hmotor, htrig, statusWord_reserved s, ?_, ?_⟩
    · exact (statusWord_lastErr s).trans (by cases s.lastErr <;> rfl)
    · exact (statusWord_rstate s).trans (by cases s.rstate <;> rfl)
  · have hw : IsRegisterWrite x := ⟨hrst, hrd, hwr, by rw [haddr]; decide⟩
    refine ⟨fun t => (t.cycle, .hostWrite (byteOffset x.hAddr) x.hWdata) :: t.trace, ?_⟩
    rw [cycleWith_of_registerWrite hw, haddr]
    simp only [registerWrite_status]
    rfl

/-- Settles O15: an address past the map has no register, and neither it nor a read-only register takes a write. -/
theorem unmappedOffsetsReadZero : Obligations.UnmappedOffsetsReadZero := by
  refine ⟨fun a s ha => memRead_of_unmapped ha s, fun p x s hrst hrd hwr haddr => ?_, fun s => ?_,
    fun v w failing s hbit => ?_⟩
  · have hcmd : x.hAddr ≠ RegName.cmd.addr := by rintro h; simp [h, RegName.addr] at haddr
    have hstatus : x.hAddr ≠ 1 := by rintro h; simp [h] at haddr
    have hw : IsRegisterWrite x := ⟨hrst, hrd, hwr, hcmd⟩
    refine ⟨hReady_of_registerWrite hw s, fun t => (t.cycle, .hostWrite (byteOffset x.hAddr) x.hWdata) :: t.trace, ?_⟩
    rw [cycleWith_of_registerWrite hw]
    simp only [registerWrite_of_ne_status hstatus]
    rfl
  · exact ⟨statusWord_reserved s, memRead_btn_reserved s, memRead_ledMask_reserved s, memRead_ulBuf4_reserved s⟩
  · rw [registerWrite_status, registerWrite_status, hbit]

end Sys2Proof.StateProofs
end

section
/-!
Host reads and the reset stall (20_memory.md R49, R52): a read outside reset completes at once, sees the state at the start
of the cycle, and adds its transfer event to the cycle in which the host requests nothing; while rst = 1 nothing completes.
-/

namespace Sys2Proof.Machine

/-! ### Completion and read data (R18, R48) -/

theorem transferCompletes_iff {x : PortInputs} {s : State} : transferCompletes x s = true ↔ hReady x s = some true :=
  beq_iff_eq

theorem hRdata_of_completed_read {x : PortInputs} {s : State} (hrd : x.hRd = true) (hc : transferCompletes x s = true) :
    hRdata x s = some (memRead x.hAddr s) := by
  simp [hRdata, hrd, hc]

theorem hRdata_of_stalled {x : PortInputs} {s : State} (h : transferCompletes x s = false) : hRdata x s = none := by
  simp [hRdata, h]

theorem transferCompletes_of_rst {x : PortInputs} (h : x.rst = true) (s : State) : transferCompletes x s = false := by
  simp [transferCompletes, hReady_of_rst h]

/-! ### Reads (R49) -/

/-- The host reads, outside reset. -/
structure IsHostRead (x : PortInputs) : Prop where
  outsideReset : x.rst = false
  read : x.hRd = true
  noWrite : x.hWr = false

/-- A read never stalls, whatever its address and whatever the block is doing. -/
theorem hReady_of_hostRead {x : PortInputs} (h : IsHostRead x) (s : State) : hReady x s = some true := by
  simp [hReady, h.outsideReset, h.read, h.noWrite]

theorem transferCompletes_of_hostRead {x : PortInputs} (h : IsHostRead x) (s : State) :
    transferCompletes x s = true :=
  transferCompletes_iff.2 (hReady_of_hostRead h s)

theorem hostCycle_of_hostRead {x : PortInputs} (h : IsHostRead x) (s0 s : State) :
    hostCycle x s0 s = .next (record (.hostRead (byteOffset x.hAddr) (memRead x.hAddr s0)) s) := by
  simp [hostCycle, transferCompletes_of_hostRead h, h.read]

/-- No unit reads the host's read request. -/
theorem unitsCycle_without_read (p : Config.Params) (x : PortInputs) (s : State) :
    unitsCycle p { x with hRd := false } s = unitsCycle p x s := rfl

/-- The cycle of a read is the cycle in which the host requests nothing, and then the event of the read. -/
theorem cycleWith_of_hostRead {x : PortInputs} (h : IsHostRead x) (p : Config.Params) (s : State) :
    cycleWith p x s = andThen (cycleWith p { x with hRd := false } s) fun t =>
      .next (record (.hostRead (byteOffset x.hAddr) (memRead x.hAddr s)) t) := by
  have hidle : cycleWith p { x with hRd := false } s = unitsCycle p x s :=
    (cycleWith_of_no_request (x := { x with hRd := false }) h.outsideReset rfl h.noWrite).trans
      (unitsCycle_without_read p x s)
  rw [hidle, cycleWith_of_legal (by simp [requestLegal, h.noWrite]) h.outsideReset]
  simp only [hostCycle_of_hostRead h]

end Sys2Proof.Machine

namespace Sys2Proof.MemoryProofs

open Sys2Proof.Machine

/-- Settles O10: a read completes at once, and its only trace in the cycle is its event in the history. -/
theorem hostReadHasNoSideEffect : Obligations.HostReadHasNoSideEffect := by
  intro p x s hrst hrd hwr
  have hread : IsHostRead x := ⟨hrst, hrd, hwr⟩
  refine ⟨hReady_of_hostRead hread s, hRdata_of_completed_read hrd (transferCompletes_of_hostRead hread s),
    fun t => (t.cycle, .hostRead (byteOffset x.hAddr) (memRead x.hAddr s)) :: t.trace, ?_⟩
  exact cycleWith_of_hostRead hread p s

/-- Settles O11: with h_ready at 0 nothing completes, so no read data is valid. -/
theorem noTransferDuringReset : Obligations.NoTransferDuringReset := fun _ s hrst =>
  have hstall := transferCompletes_of_rst hrst s
  ⟨hReady_of_rst hrst s, hstall, hRdata_of_stalled hstall⟩

end Sys2Proof.MemoryProofs
end

section
/-!
The opcode map (30_encoding.md R75 to R77). Every row's mask fixes the opcode and, below it, every bit above the row's operand
fields; so a row takes exactly the words with its opcode and with reserved bits 0, and the distinct opcodes make the row unique.
-/

namespace Sys2Proof

/-! ### Rows by opcode (R75) -/

/-- The opcode OP of a row. -/
abbrev OpcodeRow.opcode (r : OpcodeRow) : Byte := r.value.extractLsb' 24 8

/-- The opcodes of the map. -/
def assignedOpcodes : List Nat := opcodeTable.map fun r => r.opcode.toNat

/-- The unassigned opcodes, range for range as R77 lists them. -/
def unassignedOpcode (op : Nat) : Bool :=
  op ≤ 0x0F || (0x15 ≤ op && op ≤ 0x1F) || (0x22 ≤ op && op ≤ 0x2F) || (0x34 ≤ op && op ≤ 0x3F) ||
    (0x41 ≤ op && op ≤ 0x4F) || 0x53 ≤ op

/-- How many low bits of a word hold the operands of the command with opcode `op` (R68, R75): formats FC, FM and FI, FS, F0. -/
def operandBits (op : Nat) : Nat :=
  if op = 0x50 then 24 else if op = 0x13 ∨ op = 0x20 then 18 else if op = 0x30 then 17 else 0

/-- The reserved bits of the word, which its opcode determines, are 0 (R68). -/
def ReservedZero (w : Word) : Prop :=
  ∀ k, operandBits (w.extractLsb' 24 8).toNat ≤ k → k < 24 → w.getLsbD k = false

theorem reservedZero_iff_of_opcode {w : Word} {op : Byte} (hop : w.extractLsb' 24 8 = op) :
    ReservedZero w ↔ ∀ k, operandBits op.toNat ≤ k → k < 24 → w.getLsbD k = false := by
  rw [ReservedZero, hop]

/-- A row fixes the opcode and every bit above its operands (R68, R75). -/
theorem opcodeTable_mask_eq {r : OpcodeRow} (hr : r ∈ opcodeTable) :
    r.mask = BitVec.allOnes 32 <<< operandBits r.opcode.toNat := by
  revert r; decide

theorem opcodeTable_value_eq {r : OpcodeRow} (hr : r ∈ opcodeTable) : r.value = wordF0 r.opcode := by
  revert r; decide

theorem opcodeTable_opcodes_nodup : (opcodeTable.map OpcodeRow.opcode).Nodup := by decide

theorem unassignedOpcode_iff (op : Nat) : unassignedOpcode op = true ↔ op ∉ assignedOpcodes := by
  simp [unassignedOpcode, assignedOpcodes, opcodeTable]
  omega

/-- The 256 opcodes less the 15 rows. -/
theorem unassignedOpcode_count : ((List.range 256).filter unassignedOpcode).length = 241 := by
  have hassigned : ((List.range 256).filter (!unassignedOpcode ·)).Perm assignedOpcodes := by
    refine (List.perm_ext_iff_of_nodup (List.nodup_range.filter _) (by decide)).2 fun op => ?_
    have hlt : op ∈ assignedOpcodes → op < 256 := (show ∀ k ∈ assignedOpcodes, k < 256 by decide) op
    simpa [← Bool.not_eq_true, unassignedOpcode_iff] using hlt
  have hsplit := (List.range 256).length_eq_length_filter_add unassignedOpcode
  rw [hassigned.length_eq, List.length_range] at hsplit
  exact Nat.add_right_cancel hsplit.symm

theorem operandBits_le (op : Nat) : operandBits op ≤ 24 := by
  unfold operandBits; split_ifs <;> decide

/-! ### Which words a row takes (R76) -/

/-- The bits from `n` on are those of a word of format F0 when the opcode agrees and the bits below it, from `n` on, are 0. -/
theorem and_mask_eq_wordF0_iff {n : Nat} (hn : n ≤ 24) (w : Word) (op : Byte) :
    w &&& BitVec.allOnes 32 <<< n = wordF0 op ↔
      w.extractLsb' 24 8 = op ∧ ∀ k, n ≤ k → k < 24 → w.getLsbD k = false := by
  have hbit (k : Nat) : (w &&& BitVec.allOnes 32 <<< n).getLsbD k = (w.getLsbD k && decide (n ≤ k)) := by
    simp only [BitVec.getLsbD_and, BitVec.getLsbD_shiftLeft, BitVec.getLsbD_allOnes]
    by_cases hk : k < 32
    · simp [hk, show k - n < 32 by omega, decide_not.symm]
    · simp [BitVec.getLsbD_of_ge w k (by omega)]
  constructor
  · intro h
    replace h (k : Nat) : (w.getLsbD k && decide (n ≤ k)) = (wordF0 op).getLsbD k := by rw [← hbit, h]
    simp only [wordF0_getLsbD] at h
    refine ⟨BitVec.eq_of_getLsbD_eq fun k hk => ?_, fun k hnk hk => ?_⟩
    · simpa [hk, show n ≤ 24 + k by omega] using h (24 + k)
    · simpa [hk, hnk] using h k
  · rintro ⟨rfl, hzero⟩
    refine BitVec.eq_of_getLsbD_eq fun k hk => ?_
    rw [hbit, wordF0_getLsbD]
    by_cases hop : k < 24
    · by_cases hnk : n ≤ k
      · simp [hop, hzero k hnk hop]
      · simp [hop, hnk]
    · simp [hop, show n ≤ k by omega, show k - 24 < 8 by omega, show 24 + (k - 24) = k by omega]

theorem takes_iff_opcode {r : OpcodeRow} (hr : r ∈ opcodeTable) (w : Word) :
    r.takes w = true ↔ w.extractLsb' 24 8 = r.opcode ∧ ReservedZero w := by
  rw [takes_iff, opcodeTable_mask_eq hr, opcodeTable_value_eq hr, and_mask_eq_wordF0_iff (operandBits_le _)]
  exact and_congr_right fun hop => (reservedZero_iff_of_opcode hop).symm

/-- Two rows that take one word are one row: both have its opcode. -/
theorem row_unique {r r' : OpcodeRow} (hr : r ∈ opcodeTable) (hr' : r' ∈ opcodeTable) {w : Word}
    (hw : r.takes w = true) (hw' : r'.takes w = true) : r = r' := by
  obtain ⟨hop, -⟩ := (takes_iff_opcode hr w).1 hw
  obtain ⟨hop', -⟩ := (takes_iff_opcode hr' w).1 hw'
  exact List.inj_on_of_nodup_map opcodeTable_opcodes_nodup hr hr' (hop.symm.trans hop')

/-! ### Decoding by opcode (R76, R77) -/

theorem decode_of_takes {r : OpcodeRow} (hr : r ∈ opcodeTable) {w : Word} (hw : r.takes w = true) :
    decode w = some (r.build w) := by
  obtain ⟨r', hfind⟩ : ∃ r', opcodeTable.find? (fun r => r.takes w) = some r' :=
    Option.isSome_iff_exists.1 (List.find?_isSome.2 ⟨r, hr, hw⟩)
  have htakes : r'.takes w = true := List.find?_some (p := fun r : OpcodeRow => r.takes w) hfind
  have heq : r' = r := row_unique (List.mem_of_find?_eq_some hfind) hr htakes hw
  rw [decode, hfind, heq, Option.map_some]

theorem decode_eq_none_iff (w : Word) : decode w = none ↔ ∀ r ∈ opcodeTable, ¬ r.takes w = true := by
  rw [decode, Option.map_eq_none_iff, List.find?_eq_none]

/-- R77: an unassigned opcode, or a reserved bit set. -/
theorem decode_eq_none_iff_opcode (w : Word) :
    decode w = none ↔ (w.extractLsb' 24 8).toNat ∉ assignedOpcodes ∨ ¬ ReservedZero w := by
  rw [← not_and_or, decode_eq_none_iff, assignedOpcodes, List.mem_map]
  constructor
  · rintro hnone ⟨⟨r, hr, hop⟩, hzero⟩
    exact hnone r hr ((takes_iff_opcode hr w).2 ⟨(BitVec.eq_of_toNat_eq hop).symm, hzero⟩)
  · intro h r hr hw
    obtain ⟨hop, hzero⟩ := (takes_iff_opcode hr w).1 hw
    exact h ⟨⟨r, hr, congrArg BitVec.toNat hop.symm⟩, hzero⟩

/-- The reserved bits as one field between the operands and the opcode. -/
theorem reservedZero_iff_extractLsb' {w : Word} {n : Nat} (hn : operandBits (w.extractLsb' 24 8).toNat = n) :
    ReservedZero w ↔ w.extractLsb' n (24 - n) = 0 := by
  rw [ReservedZero, hn]
  constructor
  · intro h
    refine BitVec.eq_of_getLsbD_eq fun k hk => ?_
    simp [hk, h (n + k) (by omega) (by omega)]
  · intro h k hlow hk
    have hbit := congrArg (fun v => v.getLsbD (k - n)) h
    simpa [show k - n < 24 - n by omega, show n + (k - n) = k by omega] using hbit

/-- The reserved bits of each format (R68). -/
theorem not_reservedZero_iff (w : Word) : ¬ ReservedZero w ↔
    (if (w.extractLsb' 24 8).toNat = 0x50 then false
     else if (w.extractLsb' 24 8).toNat = 0x13 ∨ (w.extractLsb' 24 8).toNat = 0x20 then w.extractLsb' 18 6 != 0
     else if (w.extractLsb' 24 8).toNat = 0x30 then w.extractLsb' 17 7 != 0
     else w.extractLsb' 0 24 != 0) = true := by
  split_ifs with hFC hFM hFS
  · rw [reservedZero_iff_extractLsb' (n := 24) (if_pos hFC)]
    exact iff_of_false (not_not.2 BitVec.of_length_zero) (by decide)
  · rw [reservedZero_iff_extractLsb' (n := 18) (by rw [operandBits, if_neg hFC, if_pos hFM])]
    exact bne_iff_ne.symm
  · rw [reservedZero_iff_extractLsb' (n := 17) (by rw [operandBits, if_neg hFC, if_neg hFM, if_pos hFS])]
    exact bne_iff_ne.symm
  · rw [reservedZero_iff_extractLsb' (n := 0) (by rw [operandBits, if_neg hFC, if_neg hFM, if_neg hFS])]
    exact bne_iff_ne.symm

/-! ### Commands with an operand out of range decode too (R72, R74) -/

theorem reservedZero_encode_motorSet (m : Motor) (v : Duty) : ReservedZero (encode (.motorSet m v)) :=
  (reservedZero_iff_of_opcode (Laws.OpcodeField.motorSet m v)).2 fun k (hlow : 17 ≤ k) hk => by
    rw [encode, wordFS_getLsbD, if_neg (by omega), if_neg (by omega), if_pos hk]

theorem reservedZero_encode_btnLight (btn : Button) (v : Duty) : ReservedZero (encode (.btnLight btn v)) :=
  (reservedZero_iff_of_opcode (Laws.OpcodeField.btnLight btn v)).2 fun k (hlow : 18 ≤ k) hk => by
    rw [encode, wordFI_getLsbD, if_neg (by omega), if_neg (by omega), if_pos hk]

/-! The fields of formats FS and FI, read back; each concatenation stands with the sum of its fields' widths, which is how the
library's lemmas find it. -/

theorem wordFS_motor (op : Byte) (m : BitVec 1) (v : Duty) : (wordFS op m v).extractLsb' 16 1 = m := by
  change (op ++ 0#7 ++ m ++ v).extractLsb' 16 1 = m
  rw [BitVec.extractLsb'_append_eq_of_le (by decide)]
  exact BitVec.extractLsb'_append_eq_right

theorem wordFS_speed (op : Byte) (m : BitVec 1) (v : Duty) : (wordFS op m v).extractLsb' 0 16 = v :=
  BitVec.extractLsb'_append_eq_right (a := op ++ 0#7 ++ m)

theorem wordFI_button (op : Byte) (btn : BitVec 2) (v : Duty) : (wordFI op btn v).extractLsb' 16 2 = btn := by
  change (op ++ 0#6 ++ btn ++ v).extractLsb' 16 2 = btn
  rw [BitVec.extractLsb'_append_eq_of_le (by decide)]
  exact BitVec.extractLsb'_append_eq_right

theorem wordFI_intensity (op : Byte) (btn : BitVec 2) (v : Duty) : (wordFI op btn v).extractLsb' 0 16 = v :=
  BitVec.extractLsb'_append_eq_right (a := op ++ 0#6 ++ btn)

theorem decode_encode_motorSet (m : Motor) (v : Duty) :
    decode (encode (.motorSet m v)) = some (.motorSet m v) := by
  have hr : opcodeTable[7] ∈ opcodeTable := List.getElem_mem _
  rw [decode_of_takes hr ((takes_iff_opcode hr _).2
    ⟨Laws.OpcodeField.motorSet m v, reservedZero_encode_motorSet m v⟩)]
  simp [opcodeTable, encode, wordFS_motor, wordFS_speed]

theorem decode_encode_btnLight (btn : Button) (v : Duty) :
    decode (encode (.btnLight btn v)) = some (.btnLight btn v) := by
  have hr : opcodeTable[5] ∈ opcodeTable := List.getElem_mem _
  rw [decode_of_takes hr ((takes_iff_opcode hr _).2
    ⟨Laws.OpcodeField.btnLight btn v, reservedZero_encode_btnLight btn v⟩)]
  simp [opcodeTable, encode, wordFI_button, wordFI_intensity]

end Sys2Proof

namespace Sys2Proof.Machine

/-- R77, R136: an ILLEGAL word completes at once, and only LAST_ERR, BUSY and the history show it. -/
theorem acceptWord_of_illegal {w : Word} {s : State} (hw : decode w = none) (hs : s.initFailed = false) :
    acceptWord w s = .next { s with
      lastErr := .illegal, busy := false, trace := (s.cycle, .complete .illegal) :: (s.cycle, .accept w) :: s.trace } := by
  have hcode : (if s.initFailed then ErrCode.notReady else .illegal) = .illegal := by rw [hs]; rfl
  simp only [acceptWord, hw, hcode]
  rfl

end Sys2Proof.Machine

namespace Sys2Proof.EncodingProofs

open Sys2Proof.Machine

/-- Settles O4: a row takes exactly the words with its opcode and reserved bits 0, and the opcodes are distinct. -/
theorem decodeIsTheUniqueRow : Obligations.DecodeIsTheUniqueRow := by
  refine ⟨fun w r hr hw => decode_of_takes hr ((takes_iff r w).2 hw),
    fun w hnone => (decode_eq_none_iff w).2 fun r hr hw => hnone r hr ((takes_iff r w).1 hw),
    by decide, opcodeTable_opcodes_nodup, fun w j k hj hk => ?_,
    fun m v => ⟨_, decode_encode_motorSet m v⟩, fun btn v => ⟨_, decode_encode_btnLight btn v⟩⟩
  have hrow : opcodeTable[j] = opcodeTable[k] := row_unique (List.getElem_mem _) (List.getElem_mem _) hj hk
  exact Fin.ext ((opcodeTable_opcodes_nodup.of_map.getElem_inj_iff).1 hrow)

/-- Settles O3: no row takes the word, so its opcode is in no row or its row finds a reserved bit set. -/
theorem illegalWordsAreUnassignedOrReserved : Obligations.IllegalWordsAreUnassignedOrReserved := by
  refine ⟨unassignedOpcode_count, fun w => ?_, fun w s hw hs => ⟨_, acceptWord_of_illegal hw hs⟩⟩
  exact (decode_eq_none_iff_opcode w).trans (or_congr (unassignedOpcode_iff _).symm (not_reservedZero_iff w))

end Sys2Proof.EncodingProofs
end

section
/-!
The channel mask's three bytes (40_led_driver.md, R91): one lemma reads any bit of any byte, and the packing of LED_SET_MASK
is its three groups.
-/

namespace Sys2Proof.Machine

/-- Byte g of the packed mask: channels 6g to 6g+5, zero-extended (R91). -/
def maskGroup (m : ChannelMask) (g : Nat) : Byte := (m.extractLsb' (6 * g) 6).zeroExtend 8

theorem pack3_eq_maskGroups (m : ChannelMask) : pack3 m = [maskGroup m 0, maskGroup m 1, maskGroup m 2] := rfl

/-- R91 bit by bit: the low six bits of byte g are channels 6g+k, and the others are 0. -/
theorem maskGroup_getLsbD (m : ChannelMask) (g k : Nat) :
    (maskGroup m g).getLsbD k = if k < 6 then m.getLsbD (6 * g + k) else false := by
  rw [maskGroup, BitVec.zeroExtend, BitVec.getLsbD_setWidth, BitVec.getLsbD_extractLsb']
  split_ifs with hk
  · simp [hk, show k < 8 by omega]
  · simp [hk]

theorem maskGroup_channel (m : ChannelMask) (g : Nat) (k : Fin 6) :
    (maskGroup m g).getLsbD k.val = m.getLsbD (6 * g + k.val) := by
  rw [maskGroup_getLsbD, if_pos k.isLt]

theorem maskGroup_unused (m : ChannelMask) (g : Nat) :
    (maskGroup m g).getLsbD 6 = false ∧ (maskGroup m g).getLsbD 7 = false := by
  constructor <;> rw [maskGroup_getLsbD, if_neg (by decide)]

end Sys2Proof.Machine

namespace Sys2Proof.LedDriverProofs

open Sys2Proof.Machine

/-- Settles O38: the three bytes are the mask's groups, and each group's bits are known. -/
theorem maskPacking : Obligations.MaskPacking := by
  refine fun m => ⟨maskGroup m 0, maskGroup m 1, maskGroup m 2, pack3_eq_maskGroups m, fun k => ⟨?_, ?_, ?_⟩, ?_⟩
  · simpa using maskGroup_channel m 0 k
  · exact maskGroup_channel m 1 k
  · exact maskGroup_channel m 2 k
  · simp only [List.forall_mem_cons]
    exact ⟨maskGroup_unused m 0, maskGroup_unused m 1, maskGroup_unused m 2, List.forall_mem_nil _⟩

end Sys2Proof.LedDriverProofs
end

section
/-!
The button latch in a cycle (41_buttons.md R101): the unit samples the pins, and neither the other units nor the host port
touch what it took.
-/

namespace Sys2Proof.Machine

/-! ### What the host port leaves alone -/

/-- The acceptance of any word, ILLEGAL and NOT_READY included, keeps the frame of the commands. -/
theorem acceptWord_frame {w : Word} {s t : State} (h : acceptWord w s = .next t) : SameOutsideCommands s t := by
  rcases acceptWord_cases h with ⟨i, -, hexec⟩ | ⟨-, rfl⟩
  · exact { exec_frame hexec with }
  · constructor <;> rfl

@[simp] theorem registerWrite_btnLatch (a : BitVec 6) (w : Word) (failing : Bool) (s : State) :
    (registerWrite a w failing s).btnLatch = s.btnLatch := by
  by_cases ha : a = 1
  · rw [ha, registerWrite_status]
  · rw [registerWrite_of_ne_status ha]

theorem hostCycle_btnLatch {x : PortInputs} {s0 s t : State} (h : hostCycle x s0 s = .next t) :
    t.btnLatch = s.btnLatch := by
  rcases hostCycle_cases h with ⟨-, rfl⟩ | ⟨-, -, rfl⟩ | ⟨-, -, -, -, haccept⟩ | ⟨-, -, -, rfl⟩
  · rfl
  · exact record_btnLatch _ s
  · exact (acceptWord_frame haccept).btnLatch
  · simp

/-! ### The latch at an edge (R101) -/

/-- At an edge outside reset the latch holds the inverted pins. -/
theorem cycleWith_btnLatch {p : Config.Params} {x : PortInputs} {s t : State} (hrst : x.rst = false)
    (h : cycleWith p x s = .next t) : t.btnLatch = ~~~ x.btnN := by
  obtain ⟨-, ⟨hr, -⟩ | ⟨-, s1, hbus, hhost⟩⟩ := cycleWith_cases h
  · simp [hrst] at hr
  · calc t.btnLatch = (rangeCycle p x (initialise x s1)).btnLatch := hostCycle_btnLatch hhost
      _ = s1.btnLatch := by simp
      _ = (sampleButtons x (beginCycle s)).btnLatch := (busCycle_frame hbus).btnLatch
      _ = ~~~ x.btnN := sampleButtons_btnLatch x _

/-- A cycle with rst = 1 is the reset edge and nothing else (R154). -/
theorem eq_resetEdge_of_rst {p : Config.Params} {x : PortInputs} {s t : State} (hrst : x.rst = true)
    (h : cycleWith p x s = .next t) : t = resetEdge (beginCycle s) := by
  obtain ⟨-, ⟨-, ht⟩ | ⟨hr, -⟩⟩ := cycleWith_cases h
  · exact ht
  · simp [hrst] at hr

end Sys2Proof.Machine

namespace Sys2Proof.ButtonProofs

open Sys2Proof.Machine

/-- Settles O47: the sample outlives the rest of its cycle, and the reset edge takes the latch's reset value. -/
theorem buttonLatchSamplesEveryEdge : Obligations.ButtonLatchSamplesEveryEdge := by
  refine fun p x s t h => ⟨fun hrst k => ?_, fun hrst => ?_⟩
  · rw [cycleWith_btnLatch hrst h, BitVec.getLsbD_not, decide_eq_true k.isLt, Bool.true_and]
  · rw [eq_resetEdge_of_rst hrst h]
    exact resetEdge_btnLatch _

end Sys2Proof.ButtonProofs
end

section
/-!
The distance of a measured width and the saturating HCOUNT (43_ranging.md R121, R125): what a saturated word reads, and
what a tick in AWAIT_END is for each level of echo.
-/

namespace Sys2Proof.Machine

/-! ### Saturation (R11) -/

@[simp] theorem sat32_toNat (n : Nat) : (sat32 n).toNat = min n (2 ^ 32 - 1) := by
  rw [sat32, BitVec.toNat_ofNat]
  exact Nat.mod_eq_of_lt (by omega)

/-! ### The distance (R125) -/

theorem rangeDistance_toNat (h : Word) : (rangeDistance h).toNat = min (h.toNat * 17) (2 ^ 32 - 1) :=
  sat32_toNat _

/-- Up to the last exact width the distance is the product. -/
theorem rangeDistance_toNat_of_le {h : Word} (hle : h.toNat ≤ 252645135) :
    (rangeDistance h).toNat = h.toNat * 17 := by
  rw [rangeDistance_toNat, Nat.min_eq_left (by omega)]

theorem rangeDistance_of_gt {h : Word} (hgt : 252645135 < h.toNat) : rangeDistance h = 0xFFFFFFFF#32 := by
  apply BitVec.eq_of_toNat_eq
  rw [rangeDistance_toNat, Nat.min_eq_right (by omega)]
  rfl

/-! ### A tick in AWAIT_END (R121) -/

theorem tickAwaitEnd_high (p : Config.Params) (s : State) :
    tickAwaitEnd p true s = timeoutStep p { s with hcount := sat32 (s.hcount.toNat + 1) } := rfl

theorem tickAwaitEnd_low (p : Config.Params) (s : State) :
    tickAwaitEnd p false s =
      complete .ok
        { s with
          rangeUs := s.hcount, rangeDist := rangeDistance s.hcount, rangeValid := true
          rstate := .idle, presc := 0, cur := 0 } := rfl

end Sys2Proof.Machine

namespace Sys2Proof.RangingProofs

open Sys2Proof.Machine

/-- Settles O59: the exact distance is 17 per microsecond, which is 0.034 / 2 in thousandths; above 252645135 the minimum of
R11 is its bound. -/
theorem distanceOfWidth : Obligations.DistanceOfWidth := by
  refine ⟨rangeDistance_toNat, fun h hle => ?quotient, fun h => rangeDistance_of_gt, by norm_num, by decide,
    fun p s => ?fallingEcho, fun p s => ?highEcho⟩
  case quotient =>
    rw [rangeDistance_toNat_of_le hle]
    push_cast
    ring
  case fallingEcho => simp [tickAwaitEnd_low]
  case highEcho => rw [tickAwaitEnd_high, timeoutStep_hcount, sat32_toNat]

end Sys2Proof.RangingProofs
end

section
/-!
Reset and the first cycle after it (70_reset_and_hazards.md R154, R156): the reset edge in full, the cycle of the
initialisation step, and what the host port can do in a cycle that finds BUSY at 1 with no transaction in flight.
-/

namespace Sys2Proof.Machine

/-! ### The reset edge (R154) -/

/-- Within the host's contract a cycle with rst = 1 always answers, and it answers the reset edge. -/
theorem cycleWith_of_rst {x : PortInputs} (hq : requestLegal x = true) (hrst : x.rst = true) (p : Config.Params)
    (s : State) : cycleWith p x s = .next (resetEdge (beginCycle s)) := by
  simp [cycleWith, requestLegal_iff.1 hq, hrst]

theorem mem_trace_beginCycle {e : Nat × Event} {s : State} (he : e ∈ (beginCycle s).trace) :
    e ∈ s.trace ∨ ∃ levels, e.2 = .pins levels := by
  rcases List.mem_cons.1 he with rfl | hold
  · exact .inr ⟨_, rfl⟩
  · exact .inl hold

/-! ### The host port of a busy block with no transaction (R49 to R51) -/

theorem hReady_of_commandWrite {x : PortInputs} (hrst : x.rst = false) (hrd : x.hRd = false) (hwr : x.hWr = true)
    (hcmd : x.hAddr = 0) (s : State) : hReady x s = some (!s.busy) := by
  simp [hReady, hrst, hrd, hwr, hcmd, RegName.addr]

theorem txnFails_of_no_txn {s : State} (h : s.bValid = false) (x : PortInputs) : txnFails x s = false := by
  simp [txnFails, h]

/-- With BUS_FAULT at 0 and no failing transaction the write-1-to-clear has nothing to do, so no register write does. -/
theorem registerWrite_of_no_fault {s : State} (h : s.busFault = false) (a : BitVec 6) (w : Word) :
    registerWrite a w false s = s := by
  by_cases ha : a = 1
  · rw [ha, registerWrite_status, ← h, ite_self]
  · exact registerWrite_of_ne_status ha w false s

/-- BUSY stalls a CMD write, a read has no effect, and with BUS_FAULT at 0 a register write has none either: the host can
add its own transfer to the history and nothing else, and a transfer is no transaction. -/
theorem hostCycle_of_busy {x : PortInputs} {s0 s : State} (hbusy : s0.busy = true) (hvalid : s0.bValid = false)
    (hfault : s.busFault = false) :
    ∃ tr, hostCycle x s0 s = .next { s with trace := tr } ∧ busLog tr = busLog s.trace := by
  cases hc : transferCompletes x s0 with
  | false => exact ⟨s.trace, hostCycle_of_stalled hc s, rfl⟩
  | true =>
    obtain ⟨hrst, ⟨hrd, hwr⟩ | ⟨hrd, hwr, hcmd⟩⟩ := transferCompletes_cases hc
    · exact ⟨_, hostCycle_of_hostRead ⟨hrst, hrd, hwr⟩ s0 s, rfl⟩
    · have hnot : x.hAddr ≠ RegName.cmd.addr := fun ha => by simp [hcmd ha] at hbusy
      refine ⟨(s.cycle, .hostWrite (byteOffset x.hAddr) x.hWdata) :: s.trace, ?_, rfl⟩
      rw [hostCycle_of_registerWrite ⟨hrst, hrd, hwr, hnot⟩, txnFails_of_no_txn hvalid,
        registerWrite_of_no_fault (by simpa using hfault)]
      rfl

/-! ### STATUS around the initialisation step (R25, R156)

STATUS shows its own fields only, so these two states stand for every state that agrees with them on those fields. -/

theorem statusWord_reset : statusWord State.reset = 1#32 := by decide

theorem statusWord_initialised (ready : Bool) :
    statusWord { State.reset with initDone := true, initFailed := !ready, busy := false } =
      if ready then 0#32 else 2#32 := by
  cases ready <;> decide

/-! ### The initialisation step (R156) -/

theorem initialise_of_not_done {s : State} (h : s.initDone = false) (x : PortInputs) :
    initialise x s = { s with initDone := true, initFailed := !x.periphReady, busy := false } := by
  simp [initialise, h]

/-- With no transaction and no measurement in flight the units sample the buttons and, before the initialisation step, take
it. -/
theorem unitsCycle_of_nothing_in_flight {p : Config.Params} {x : PortInputs} {s : State} (hvalid : s.bValid = false)
    (hidle : s.rstate = .idle) : unitsCycle p x s = .next (initialise x (sampleButtons x (beginCycle s))) := by
  have hbus := busCycle_of_not_valid (s := sampleButtons x (beginCycle s)) hvalid p x
  simp only [unitsCycle, hbus, andThen_next]
  rw [rangeCycle_of_idle (by simpa using hidle)]

/-- The whole cycle of the initialisation step, for a state that R42 (a) allows before it: the host port adds a transfer to
the history at most. -/
theorem cycleWith_of_not_done {p : Config.Params} {x : PortInputs} {s : State} (hq : requestLegal x = true)
    (hrst : x.rst = false) (hdone : s.initDone = false) (hbusy : s.busy = true) (hvalid : s.bValid = false)
    (hidle : s.rstate = .idle) (hfault : s.busFault = false) :
    ∃ tr, cycleWith p x s = .next { s with
        initDone := true, initFailed := !x.periphReady, busy := false, btnLatch := ~~~ x.btnN
        inputs := s.inputs.tail, cycle := s.cycle + 1, trace := tr } ∧
      busLog tr = busLog s.trace := by
  rw [cycleWith_of_legal hq hrst, unitsCycle_of_nothing_in_flight hvalid hidle,
    initialise_of_not_done (s := sampleButtons x (beginCycle s)) hdone]
  exact hostCycle_of_busy hbusy hvalid hfault

end Sys2Proof.Machine

namespace Sys2Proof.ResetProofs

open Sys2Proof.Machine

/-- Settles O16: the cycle is the reset edge, which keeps the model's own fields only, and its one event is the output levels
of the cycle. -/
theorem resetEdgeGivesResetValues : Obligations.ResetEdgeGivesResetValues := by
  refine ⟨fun p x s hq hrst => ?_, by decide⟩
  exact ⟨_, _, _, cycleWith_of_rst hq hrst p s, fun e he => mem_trace_beginCycle he⟩

/-- Settles O17: the reset state is one before the initialisation step, and both STATUS words are read off the exact
states. -/
theorem initialisationStep : Obligations.InitialisationStep := by
  intro p x q n tr hq hrst s
  obtain ⟨tr', hcycle, hlog⟩ := cycleWith_of_not_done (p := p) (s := s) hq hrst rfl rfl rfl rfl rfl
  refine ⟨statusWord_reset, fun hrd hwr hcmd => hReady_of_commandWrite hrst hrd hwr hcmd s,
    _, _, tr', hcycle, hlog, fun t ht => ?_⟩
  cases hcycle.symm.trans ht
  exact statusWord_initialised x.periphReady

end Sys2Proof.ResetProofs
end

section
/-!
Encoding and decoding as inverses (30_encoding.md R66 to R81): a row gives back the operands that the word was laid out
from, the fields of a word that a row takes lay that word out again, and the assembler's decimal operands are exact.
-/

namespace Sys2Proof

/-! ### From the command to its word and back (R68 to R76) -/

/-- A row that has the word's opcode decodes it, where the reserved bits are 0. -/
theorem decode_of_row {r : OpcodeRow} (hr : r ∈ opcodeTable) {w : Word} (hop : w.extractLsb' 24 8 = r.opcode)
    (hz : ReservedZero w) : decode w = some (r.build w) :=
  decode_of_takes hr ((takes_iff_opcode hr w).2 ⟨hop, hz⟩)

theorem reservedZero_encode_ledSetMask (mask : ChannelMask) : ReservedZero (encode (.ledSetMask mask)) :=
  (reservedZero_iff_of_opcode (Laws.OpcodeField.ledSetMask mask)).2 fun k (hlow : 18 ≤ k) hk => by
    rw [encode, wordFM_getLsbD, if_neg (by omega), if_pos hk]

/-- Format FC has no reserved bit. -/
theorem reservedZero_encode_ulSet (r g b : Byte) : ReservedZero (encode (.ulSet r g b)) :=
  (reservedZero_iff_of_opcode (Laws.OpcodeField.ulSet r g b)).2 fun _ (hlow : 24 ≤ _) hk =>
    absurd hk (Nat.not_lt.2 hlow)

theorem wordFM_mask (op : Byte) (mask : ChannelMask) : (wordFM op mask).extractLsb' 0 18 = mask :=
  BitVec.extractLsb'_append_eq_right (a := op ++ 0#6)

theorem wordFC_red (op r g b : Byte) : (wordFC op r g b).extractLsb' 16 8 = r := by
  change (op ++ r ++ g ++ b).extractLsb' 16 8 = r
  rw [BitVec.extractLsb'_append_eq_of_le (by decide), BitVec.extractLsb'_append_eq_of_le (by decide)]
  exact BitVec.extractLsb'_append_eq_right

theorem wordFC_green (op r g b : Byte) : (wordFC op r g b).extractLsb' 8 8 = g := by
  change (op ++ r ++ g ++ b).extractLsb' 8 8 = g
  rw [BitVec.extractLsb'_append_eq_of_le (by decide)]
  exact BitVec.extractLsb'_append_eq_right

theorem wordFC_blue (op r g b : Byte) : (wordFC op r g b).extractLsb' 0 8 = b :=
  BitVec.extractLsb'_append_eq_right (a := op ++ r ++ g)

theorem decode_encode_ledSetMask (mask : ChannelMask) :
    decode (encode (.ledSetMask mask)) = some (.ledSetMask mask) := by
  have hr : opcodeTable[3] ∈ opcodeTable := List.getElem_mem _
  rw [decode_of_row hr (Laws.OpcodeField.ledSetMask mask) (reservedZero_encode_ledSetMask mask)]
  simp [opcodeTable, encode, wordFM_mask]

theorem decode_encode_ulSet (r g b : Byte) : decode (encode (.ulSet r g b)) = some (.ulSet r g b) := by
  have hr : opcodeTable[12] ∈ opcodeTable := List.getElem_mem _
  rw [decode_of_row hr (Laws.OpcodeField.ulSet r g b) (reservedZero_encode_ulSet r g b)]
  simp [opcodeTable, encode, wordFC_red, wordFC_green, wordFC_blue]

/-- The round trip: the formats with operands by their fields, the eleven words of format F0 one by one. -/
theorem decode_encode (i : Instr) : decode (encode i) = some i := by
  cases i
  case ledSetMask mask => exact decode_encode_ledSetMask mask
  case btnLight btn v => exact decode_encode_btnLight btn v
  case motorSet m v => exact decode_encode_motorSet m v
  case ulSet r g b => exact decode_encode_ulSet r g b
  all_goals decide

/-! ### From the word to its command and back (R66 to R76) -/

theorem exists_row_of_decode {w : Word} {i : Instr} (h : decode w = some i) :
    ∃ r ∈ opcodeTable, r.takes w = true ∧ r.build w = i := by
  obtain ⟨r, hfind, hbuild⟩ := Option.map_eq_some_iff.1 h
  exact ⟨r, List.mem_of_find?_eq_some hfind, List.find?_some (p := fun r : OpcodeRow => r.takes w) hfind, hbuild⟩

@[simp] theorem bits_buttonOfBits (v : BitVec 2) : (buttonOfBits v).bits = v := by
  revert v; decide

@[simp] theorem bits_motorOfBits (v : BitVec 1) : (motorOfBits v).bits = v := by
  revert v; decide

/-- The word keeps its opcode in bits 31:24 (R67). -/
theorem getLsbD_of_opcode {w : Word} {op : Byte} (hop : w.extractLsb' 24 8 = op) {k : Nat} (hk : 24 ≤ k) (hk' : k < 32) :
    w.getLsbD k = op.getLsbD (k - 24) := by
  rw [← hop, BitVec.getLsbD_extractLsb']
  simp [show k - 24 < 8 by omega, show 24 + (k - 24) = k by omega]

section
variable {w : Word} {op : Byte} (hop : w.extractLsb' 24 8 = op)
  (hz : ∀ k, operandBits op.toNat ≤ k → k < 24 → w.getLsbD k = false)
include hop hz

/-- A word whose operand fields are empty is the word of format F0 with its opcode. -/
theorem wordF0_of_fields (hn : operandBits op.toNat = 0) : wordF0 op = w := by
  refine BitVec.eq_of_getLsbD_eq fun k hk => ?_
  rw [wordF0_getLsbD]
  split_ifs with h24
  · exact (hz k (by omega) h24).symm
  · exact (getLsbD_of_opcode hop (by omega) hk).symm

theorem wordFM_of_fields (hn : operandBits op.toNat = 18) : wordFM op (w.extractLsb' 0 18) = w := by
  refine BitVec.eq_of_getLsbD_eq fun k hk => ?_
  rw [wordFM_getLsbD]
  split_ifs with h18 h24
  · simp [h18]
  · exact (hz k (by omega) h24).symm
  · exact (getLsbD_of_opcode hop (by omega) hk).symm

theorem wordFI_of_fields (hn : operandBits op.toNat = 18) :
    wordFI op (w.extractLsb' 16 2) (w.extractLsb' 0 16) = w := by
  refine BitVec.eq_of_getLsbD_eq fun k hk => ?_
  rw [wordFI_getLsbD]
  split_ifs with h16 h18 h24
  · simp [h16]
  · simp [show k - 16 < 2 by omega, show 16 + (k - 16) = k by omega]
  · exact (hz k (by omega) h24).symm
  · exact (getLsbD_of_opcode hop (by omega) hk).symm

theorem wordFS_of_fields (hn : operandBits op.toNat = 17) :
    wordFS op (w.extractLsb' 16 1) (w.extractLsb' 0 16) = w := by
  refine BitVec.eq_of_getLsbD_eq fun k hk => ?_
  rw [wordFS_getLsbD]
  split_ifs with h16 h17 h24
  · simp [h16]
  · simp [h17]
  · exact (hz k (by omega) h24).symm
  · exact (getLsbD_of_opcode hop (by omega) hk).symm

omit hz in
theorem wordFC_of_fields :
    wordFC op (w.extractLsb' 16 8) (w.extractLsb' 8 8) (w.extractLsb' 0 8) = w := by
  refine BitVec.eq_of_getLsbD_eq fun k hk => ?_
  rw [wordFC_getLsbD]
  split_ifs with h8 h16 h24
  · simp [h8]
  · simp [show k - 8 < 8 by omega, show 8 + (k - 8) = k by omega]
  · simp [show k - 16 < 8 by omega, show 16 + (k - 16) = k by omega]
  · exact (getLsbD_of_opcode hop (by omega) hk).symm

end

/-- Every row's command is laid out as the word that the row takes. The rows with operands, in the order of R75, are 4 (FM),
6 (FI), 8 (FS) and 13 (FC). -/
theorem encode_build {r : OpcodeRow} (hr : r ∈ opcodeTable) {w : Word} (hop : w.extractLsb' 24 8 = r.opcode)
    (hz : ∀ k, operandBits r.opcode.toNat ≤ k → k < 24 → w.getLsbD k = false) : encode (r.build w) = w := by
  simp only [opcodeTable, List.mem_cons, List.not_mem_nil, or_false] at hr
  rcases hr with rfl | rfl | rfl | rfl | rfl | rfl | rfl | rfl | rfl | rfl | rfl | rfl | rfl | rfl | rfl
  on_goal 13 => exact wordFC_of_fields hop
  on_goal 8 => exact (congrArg (wordFS 0x30 · _) (bits_motorOfBits _)).trans (wordFS_of_fields hop hz rfl)
  on_goal 6 => exact (congrArg (wordFI 0x20 · _) (bits_buttonOfBits _)).trans (wordFI_of_fields hop hz rfl)
  on_goal 4 => exact wordFM_of_fields hop hz rfl
  all_goals exact wordF0_of_fields hop hz rfl

theorem encode_of_decode {w : Word} {i : Instr} (h : decode w = some i) : encode i = w := by
  obtain ⟨r, hr, htakes, rfl⟩ := exists_row_of_decode h
  obtain ⟨hop, hz⟩ := (takes_iff_opcode hr w).1 htakes
  exact encode_build hr hop ((reservedZero_iff_of_opcode hop).1 hz)

end Sys2Proof

namespace Sys2Proof.Machine

/-! ### Legal operands as words and as integers (R72, R74, R104, R108) -/

theorem speedInRange_iff (v : Duty) : speedInRange v = true ↔ -16384 ≤ v.toInt ∧ v.toInt ≤ 16384 := by
  rw [speedInRange, Bool.and_eq_true, decide_eq_true_eq, decide_eq_true_eq, speedInt]

theorem speedInRange_eq_legal (v : Duty) : speedInRange v = speedFieldLegal v := by
  rw [Bool.eq_iff_iff, speedInRange_iff, speedFieldLegal, BitVec.toInt_eq_toNat_cond]
  have hv := v.isLt
  simp only [Bool.or_eq_true, decide_eq_true_eq]
  split_ifs <;> omega

/-! ### Decimal operands (R81) -/

/-- The integer of a decimal operand that assembles is exact and in range. -/
theorem exactQ_eq_some {lo digits n : Int} {places : Nat} (h : exactQ lo digits places = some n) :
    n * 10 ^ places = digits * 16384 ∧ lo ≤ n ∧ n ≤ 16384 := by
  obtain ⟨⟨hdvd, hlo, hhi⟩, hn⟩ := Option.ite_none_right_eq_some.1 h
  cases hn
  refine ⟨?_, hlo, hhi⟩
  have hcancel := Int.ediv_mul_cancel (Int.dvd_of_emod_eq_zero hdvd)
  push_cast at hcancel ⊢
  exact hcancel

theorem exactQ_eq_none {digits : Int} {places : Nat} (h : digits < -(10 ^ places) ∨ 10 ^ places < digits) :
    exactQ (-16384) digits places = none := by
  rw [Option.eq_none_iff_forall_ne_some]
  intro n hn
  obtain ⟨hexact, hlo, hhi⟩ := exactQ_eq_some hn
  have hpos : (0 : Int) < 10 ^ places := by positivity
  have hlo' := mul_le_mul_of_nonneg_right hlo hpos.le
  have hhi' := mul_le_mul_of_nonneg_right hhi hpos.le
  omega

/-- An integer speed in range is the value of its 16-bit field (R72). -/
theorem toInt_ofInt_of_speed {n : Int} (hlo : -16384 ≤ n) (hhi : n ≤ 16384) : (BitVec.ofInt 16 n).toInt = n :=
  BitVec.toInt_ofInt_eq_self (by decide) (by omega) (by omega)

end Sys2Proof.Machine

namespace Sys2Proof.InverseProofs

open Sys2Proof.Machine

/-- Settles O1: format by format, each row's fields read back what the layout wrote. -/
theorem decodeReturnsEncodedCommand : Obligations.DecodeReturnsEncodedCommand := decode_encode

/-- Settles O2: the row that takes the word fixes every bit outside the operand fields. -/
theorem encodeReturnsDecodedWord : Obligations.EncodeReturnsDecodedWord := fun _ _ => encode_of_decode

/-- Settles O6: an exact integer speed in range fits its field, and out of range there is none. -/
theorem assemblerNeverRounds : Obligations.AssemblerNeverRounds := by
  refine fun m digits places => ⟨fun w hw => ?_, fun hout => ?_⟩
  · simp only [assemble, asmField, Option.map_map] at hw
    obtain ⟨n, hn, rfl⟩ := Option.map_eq_some_iff.1 hw
    obtain ⟨hexact, hlo, hhi⟩ := exactQ_eq_some hn
    have hint := toInt_ofInt_of_speed hlo hhi
    refine ⟨BitVec.ofInt 16 n, decode_encode (.motorSet m _), by rw [hint, hexact], ?_⟩
    rw [← speedInRange_eq_legal, speedInRange_iff, hint]
    exact ⟨hlo, hhi⟩
  · simp [assemble, asmField, exactQ_eq_none hout]

/-- Settles O5: each row is one evaluation; the last completes with OPERAND because 0x4001 is above 1.0. -/
theorem workedEncodings : Obligations.WorkedEncodings := by
  refine ⟨by decide, by decide, by decide, by decide, by decide, by decide, by decide, by decide, by decide, by decide,
    by decide, by decide, by decide, by decide, fun s hs => ?_⟩
  have hrange : speedInRange 0x4001 = false := by decide
  rw [exec_of_ready hs, accepted, hrange]
  rfl

/-- Settles O7: two's complement maps the legal words onto the legal integers. -/
theorem operandRangesAgree : Obligations.OperandRangesAgree :=
  fun v => ⟨by rw [speedInRange_eq_legal], Iff.rfl⟩

end Sys2Proof.InverseProofs
end

section
/-!
The commands at acceptance (R92 to R131, R141, R142): the exact next state of each, its completion code, and what an error
leaves alone.
-/

namespace Sys2Proof.Machine

/-! ### The words that acceptance puts into CUR (R68) -/

theorem encode_ledSetMask (mask : ChannelMask) :
    encode (.ledSetMask mask) = 0x13000000#32 ||| mask.zeroExtend 32 := by
  refine BitVec.eq_of_getLsbD_eq fun k hk => ?_
  have hop : (0x13000000#32).getLsbD k = (wordF0 0x13).getLsbD k := rfl
  rw [encode, wordFM_getLsbD, BitVec.getLsbD_or, hop, wordF0_getLsbD, BitVec.zeroExtend, BitVec.getLsbD_setWidth]
  split_ifs with h18 h24 h24
  · simp [hk]
  · omega
  · simp [BitVec.getLsbD_of_ge mask k (by omega)]
  · simp [BitVec.getLsbD_of_ge mask k (by omega), Instr.opcode]

theorem encode_ulSet (r g b : Byte) : encode (.ulSet r g b) =
    0x50000000#32 ||| (r.zeroExtend 32 <<< 16) ||| (g.zeroExtend 32 <<< 8) ||| b.zeroExtend 32 := by
  refine BitVec.eq_of_getLsbD_eq fun k hk => ?_
  have hop : (0x50000000#32).getLsbD k = (wordF0 0x50).getLsbD k := rfl
  have past (v : Byte) (j : Nat) (hj : 8 ≤ j) : v.getLsbD j = false := BitVec.getLsbD_of_ge v j hj
  rw [encode, wordFC_getLsbD]
  simp only [BitVec.getLsbD_or, hop, wordF0_getLsbD, BitVec.zeroExtend, BitVec.getLsbD_shiftLeft,
    BitVec.getLsbD_setWidth, hk, decide_true, Bool.true_and]
  by_cases h8 : k < 8
  · simp [h8, show k < 16 by omega, show k < 24 by omega]
  by_cases h16 : k < 16
  · simp [h8, h16, show k < 24 by omega, show k - 8 < 32 by omega, past b k (by omega)]
  by_cases h24 : k < 24
  · simp [h8, h16, h24, show k - 16 < 32 by omega, past b k (by omega), past g (k - 8) (by omega)]
  · simp [h8, h16, h24, past b k (by omega), past g (k - 8) (by omega), past r (k - 16) (by omega), Instr.opcode]

/-! ### Every command answers (R133) -/

theorem exec_eq_next (i : Instr) (s : State) :
    exec i s = .next (if s.initFailed then raiseErr .notReady s else accepted i s) := exec_eq i s

/-- The acceptance of any word, legal or not, answers too. -/
theorem acceptWord_eq_next (w : Word) (s : State) : ∃ t, acceptWord w s = .next t := by
  unfold acceptWord
  split
  · exact ⟨_, exec_eq_next _ _⟩
  · exact ⟨_, rfl⟩

/-! ### Words that do not run (R135, R141) -/

/-- With INIT_FAILED = 1 the command decoder does not matter. -/
theorem acceptWord_of_failed {s : State} (h : s.initFailed = true) (w : Word) :
    acceptWord w s = .next (raiseErr .notReady (record (.accept w) s)) := by
  have h' : (record (.accept w) s).initFailed = true := h
  unfold acceptWord
  split
  · exact exec_of_failed h' _
  · rw [h]; rfl

theorem acceptWord_of_decode {w : Word} {i : Instr} (hw : decode w = some i) {s : State} (h : s.initFailed = false) :
    acceptWord w s = .next (accepted i (record (.accept w) s)) := by
  unfold acceptWord
  rw [hw]
  exact exec_of_ready (s := record (.accept w) s) h i

/-- A command with an operand out of range raises OPERAND and does nothing else (R104, R110). -/
theorem accepted_of_illFormed {i : Instr} (hi : i.wellFormed = false) (s : State) :
    accepted i s = raiseErr .operand s := by
  cases i
  case btnLight btn v => exact if_neg (Bool.eq_false_iff.1 hi)
  case motorSet m v => exact if_neg (Bool.eq_false_iff.1 ((speedInRange_eq_legal v).trans hi))
  all_goals cases hi

/-- BTN_LIGHT with a legal intensity (R104). -/
theorem accepted_btnLight {btn : Button} {v : Duty} (hi : (Instr.btnLight btn v).wellFormed = true) (s : State) :
    accepted (.btnLight btn v) s = complete .ok { s with light := s.light.set (buttonIndex btn) v } := if_pos hi

/-- A bus command and RANGE leave LAST_ERR and set BUSY; every other legal command completes with OK. -/
theorem accepted_of_wellFormed {i : Instr} (hi : i.wellFormed = true) (s : State) :
    ((isBusCommand i = true ∨ i = .range) ∧ (accepted i s).busy = true ∧ (accepted i s).lastErr = s.lastErr) ∨
    (¬ (isBusCommand i = true ∨ i = .range) ∧ (accepted i s).busy = false ∧ (accepted i s).lastErr = .ok) := by
  cases i
  case btnLight btn v =>
    rw [accepted_btnLight hi]
    exact .inr ⟨by simp [isBusCommand, txns], rfl, rfl⟩
  case motorSet m v =>
    have hv : speedInRange v = true := (speedInRange_eq_legal v).trans hi
    exact .inr ⟨by simp [isBusCommand, txns], by simp [accepted, hv], by simp [accepted, hv]⟩
  case btnLightsClear | motorForward | motorBackward | motorStop =>
    exact .inr ⟨by simp [isBusCommand, txns], rfl, rfl⟩
  case range => exact .inl ⟨.inr rfl, rfl, rfl⟩
  all_goals exact .inl ⟨.inl rfl, rfl, rfl⟩

/-! ### The motors (R109 to R113) -/

theorem dual_of_pos {n : Int} (h : 0 < n) : dual n = (fullDuty, BitVec.ofInt 16 (0x4000 - n)) := if_pos h

theorem dual_of_neg {n : Int} (h : n < 0) : dual n = (BitVec.ofInt 16 (0x4000 + n), fullDuty) := by
  rw [dual, if_neg (by omega), if_pos h]

theorem dual_zero : dual 0 = (fullDuty, fullDuty) := rfl

theorem ofInt_toNat_of_duty {n : Int} (hlo : 0 ≤ n) (hhi : n ≤ 16384) : ((BitVec.ofInt 16 n).toNat : Int) = n := by
  rw [BitVec.toNat_ofInt]
  omega

theorem accepted_motorSet {v : Duty} (hv : speedInRange v = true) (m : Motor) (s : State) :
    accepted (.motorSet m v) s = complete .ok (setMotor m (dual v.toInt) { s with motorEn := true }) := if_pos hv

/-- A MOTOR_SET of each motor, one after the other, moves both: only the history shows the two completions. -/
theorem setBothMotors_eq_motorSets (v : Duty) (hv : speedInRange v = true) (s : State) :
    ∃ tr, complete .ok (setBothMotors v.toInt s) =
      { accepted (.motorSet .right v) (accepted (.motorSet .left v) s) with trace := tr } := by
  rw [accepted_motorSet hv, accepted_motorSet hv]
  exact ⟨_, rfl⟩

end Sys2Proof.Machine

namespace Sys2Proof.AcceptanceProofs

open Sys2Proof.Machine

/-- Settles O23: the NOT_READY check and the acceptance effect both answer a next state. -/
theorem everyCommandAnswersNext : Obligations.EveryCommandAnswersNext := fun i s => ⟨_, exec_eq_next i s⟩

/-- Settles O24: the five words of format F0 are computed. -/
theorem busCommandsWithoutOperandStart : Obligations.BusCommandsWithoutOperandStart :=
  fun _ hs => ⟨exec_of_ready hs .ledReset, exec_of_ready hs .ledEnable, exec_of_ready hs .ledDisable,
    exec_of_ready hs .ledOutput, exec_of_ready hs .ulShow⟩

/-- Settles O25: the acceptance effect, and the word of format FM as opcode and mask. -/
theorem ledSetMaskStarts : Obligations.LedSetMaskStarts := by
  intro mask s hs
  rw [← encode_ledSetMask]
  exact exec_of_ready hs (.ledSetMask mask)

/-- Settles O26: the acceptance effects, the word of format FC, and the bytes of the two buffers one by one. -/
theorem underlightCommandsStart : Obligations.UnderlightCommandsStart := by
  intro r g b s hs
  refine ⟨⟨replicateColour r g b, ?_, fun q => ?_⟩, ⟨zeroBuffer, exec_of_ready hs .ulClear, fun c => ?_⟩⟩
  · rw [← encode_ulSet]
    exact exec_of_ready hs (.ulSet r g b)
  · fin_cases q <;> exact ⟨rfl, rfl, rfl⟩
  · exact Vector.getElem_replicate c.isLt

/-- Settles O27: the field value of a button is the index of its light. -/
theorem btnLightSetsOneLight : Obligations.BtnLightSetsOneLight := by
  intro btn n v s hs hmem
  have hbits : btn.bits = BitVec.ofNat 2 n.val ∧ buttonIndex btn = n := by
    simp only [List.mem_cons, Prod.mk.injEq, List.not_mem_nil, or_false] at hmem
    rcases hmem with ⟨rfl, rfl⟩ | ⟨rfl, rfl⟩ | ⟨rfl, rfl⟩ | ⟨rfl, rfl⟩ <;> exact ⟨rfl, rfl⟩
  obtain ⟨hfield, rfl⟩ := hbits
  refine ⟨?_, fun hle => ⟨s.light.set (buttonIndex btn) v, ?_, fun k => ?_⟩, fun hgt => ?_⟩
  · rw [← hfield]
    exact decode_encode (.btnLight btn v)
  · have hv : (Instr.btnLight btn v).wellFormed = true := decide_eq_true hle
    rw [exec_of_ready hs, accepted_btnLight hv]
    rfl
  · simp only [Fin.getElem_fin, Vector.getElem_set, Fin.ext_iff, eq_comm]
  · have hv : (Instr.btnLight btn v).wellFormed = false := decide_eq_false (Nat.not_le.2 hgt)
    rw [exec_of_ready hs, accepted_of_illFormed hv]
    rfl

/-- Settles O28: the acceptance effect replaces the whole vector of lights. -/
theorem btnLightsClearTurnsAllOff : Obligations.BtnLightsClearTurnsAllOff :=
  fun _ hs => ⟨Vector.replicate 4 0, exec_of_ready hs .btnLightsClear, fun k => Vector.getElem_replicate k.isLt⟩

/-- Settles O29: the range of R110 splits the words that decode to MOTOR_SET. -/
theorem motorSetDrivesOneMotor : Obligations.MotorSetDrivesOneMotor := by
  refine fun v s hs => ⟨fun hlo hhi => ?_, fun hout m => ?_⟩
  · have hv : speedInRange v = true := (speedInRange_iff v).2 ⟨hlo, hhi⟩
    rw [exec_of_ready hs, exec_of_ready hs, accepted_motorSet hv, accepted_motorSet hv]
    exact ⟨rfl, rfl⟩
  · have hv : ¬ speedInRange v = true := fun h => by
      obtain ⟨hlo, hhi⟩ := (speedInRange_iff v).1 h
      omega
    have hill : (Instr.motorSet m v).wellFormed = false :=
      (speedInRange_eq_legal v).symm.trans (Bool.eq_false_iff.2 hv)
    rw [exec_of_ready hs, accepted_of_illFormed hill]
    rfl

/-- Settles O30: the integer of each duty lies in 0 to 0x4000, so its field holds it exactly. -/
theorem dualDutyMapping : Obligations.DualDutyMapping := by
  intro n hlo hhi
  have hfull : fullDuty.toNat = 0x4000 := rfl
  refine ⟨fun hpos => ?_, fun hneg => ?_, fun hzero => hzero ▸ dual_zero, ?_⟩
  · rw [dual_of_pos hpos]
    exact ⟨rfl, ofInt_toNat_of_duty (by omega) (by omega)⟩
  · rw [dual_of_neg hneg]
    exact ⟨ofInt_toNat_of_duty (by omega) (by omega), rfl⟩
  · rcases lt_trichotomy n 0 with hneg | rfl | hpos
    · have hduty := ofInt_toNat_of_duty (n := 0x4000 + n) (by omega) (by omega)
      rw [dual_of_neg hneg]
      exact ⟨show (BitVec.ofInt 16 (0x4000 + n)).toNat ≤ 0x4000 by omega, hfull.le⟩
    · exact ⟨hfull.le, hfull.le⟩
    · have hduty := ofInt_toNat_of_duty (n := 0x4000 - n) (by omega) (by omega)
      rw [dual_of_pos hpos]
      exact ⟨hfull.le, show (BitVec.ofInt 16 (0x4000 - n)).toNat ≤ 0x4000 by omega⟩

/-- Settles O31: the duties of 1.0, -1.0 and 0.0 are computed. -/
theorem fixedSpeedCommands : Obligations.FixedSpeedCommands :=
  fun _ hs => ⟨exec_of_ready hs .motorForward, exec_of_ready hs .motorBackward, exec_of_ready hs .motorStop⟩

/-- Settles O32: the acceptance effect is the statement's state. -/
theorem rangeStarts : Obligations.RangeStarts := fun _ hs => exec_of_ready hs .range

/-- Settles O33: the fixed speeds are legal operands, and setting both motors is setting one and then the other. -/
theorem fixedSpeedIsTwoMotorSets : Obligations.FixedSpeedIsTwoMotorSets := by
  intro s i v hs hmem
  have hcase : speedInRange v = true ∧ accepted i s = complete .ok (setBothMotors v.toInt s) := by
    simp only [List.mem_cons, Prod.mk.injEq, List.not_mem_nil, or_false] at hmem
    rcases hmem with ⟨rfl, rfl⟩ | ⟨rfl, rfl⟩ | ⟨rfl, rfl⟩ <;> exact ⟨by decide, rfl⟩
  obtain ⟨hv, hi⟩ := hcase
  have hleft : (accepted (.motorSet .left v) s).initFailed = false := (accepted_frame _ s).initFailed.trans hs
  obtain ⟨tr, hboth⟩ := setBothMotors_eq_motorSets v hv s
  refine ⟨_, _, _, exec_of_ready hs i, exec_of_ready hs _, exec_of_ready hleft _, ?_⟩
  rw [hi, hboth]

/-- Settles O34: NOT_READY, ILLEGAL and OPERAND in this order, one acceptance lemma for each. -/
theorem acceptanceErrorPriority : Obligations.AcceptanceErrorPriority := by
  intro w s t ht
  cases hs : s.initFailed with
  | true =>
    rw [acceptWord_of_failed hs] at ht
    cases ht
    exact ⟨rfl, fun h => by cases h⟩
  | false =>
    cases hw : decode w with
    | none =>
      rw [acceptWord_of_illegal hw hs] at ht
      cases ht
      exact ⟨rfl, fun _ i h => by cases h⟩
    | some i =>
      rw [acceptWord_of_decode hw hs] at ht
      cases ht
      cases hi : i.wellFormed with
      | false =>
        refine ⟨by simp [accepted_of_illFormed hi, hi], fun _ j hj hwf => ?_⟩
        cases hj
        simp [hi] at hwf
      | true =>
        refine ⟨?_, fun _ j hj _ => ?_⟩
        · rcases accepted_of_wellFormed hi (record (.accept w) s) with ⟨-, hb, he⟩ | ⟨-, hb, he⟩ <;> simp [hi, hb, he]
        · cases hj
          rcases accepted_of_wellFormed hi (record (.accept w) s) with ⟨hc, hb, -⟩ | ⟨hc, hb, -⟩ <;> simp [hb, hc]

/-- Settles O35: each of the three errors is one completion, and BUSY was 0 already. -/
theorem acceptanceErrorsArePrecise : Obligations.AcceptanceErrorsArePrecise := by
  intro w s t hb ht herr
  obtain ⟨code, rfl⟩ : ∃ code, t = raiseErr code (record (.accept w) s) := by
    cases hs : s.initFailed with
    | true => exact ⟨_, Host.Outcome.next.inj (ht.symm.trans (acceptWord_of_failed hs w))⟩
    | false =>
      rcases herr with hfail | hw | ⟨i, hw, hi⟩
      · simp [hs] at hfail
      · exact ⟨.illegal, Host.Outcome.next.inj (ht.symm.trans (acceptWord_of_illegal hw hs))⟩
      · rw [acceptWord_of_decode hw hs, accepted_of_illFormed hi] at ht
        exact ⟨_, (Host.Outcome.next.inj ht).symm⟩
  obtain ⟨⟩ := s
  cases hb
  rfl

end Sys2Proof.AcceptanceProofs
end

section
/-!
The legal states (10_state.md R19, R42). A legal state is in one of four modes: before the initialisation step, ready, with a
bus command in flight, or measuring. In each mode one unit at most acts, so that every step keeps the legal states and
answers.
-/

namespace Sys2Proof.Machine

/-! ### The modes of R42 -/

/-- Before the initialisation step (R42 (a)). -/
structure State.Starting (s : State) : Prop where
  initDone : s.initDone = false
  busy : s.busy = true
  initFailed : s.initFailed = false
  noTxn : s.bValid = false
  noRanging : s.rstate = .idle
  noTrig : s.trig = false
  cur : s.cur = 0
  presc : s.presc = 0
  fresh : outputsAtReset s = true

/-- Ready for a command, all the elements of the units at rest. -/
structure State.Ready (s : State) : Prop extends s.Idle where
  noTrig : s.trig = false
  cur : s.cur = 0
  presc : s.presc = 0

/-- A bus command in flight (R42 (b), (c)). -/
structure State.Sending (s : State) : Prop where
  initDone : s.initDone = true
  busy : s.busy = true
  initFailed : s.initFailed = false
  txn : s.bValid = true
  noRanging : s.rstate = .idle
  noTrig : s.trig = false
  isBus : curIsBus s.cur = true
  presc : s.presc = 0
  seqInList : s.seq.toNat < (curTxns s.cur).length

/-- A measurement in flight (R42 (b), (d)). -/
structure State.Measuring (s : State) : Prop where
  initDone : s.initDone = true
  busy : s.busy = true
  initFailed : s.initFailed = false
  noTxn : s.bValid = false
  ranging : s.rstate ≠ .idle
  trigger : s.trig = true ↔ s.rstate = .triggered
  cur : s.cur = encode .range

/-- The one mode of a legal state. -/
inductive State.Mode (s : State) : Prop where
  | starting (h : s.Starting)
  | ready (h : s.Ready)
  | sending (h : s.Sending)
  | measuring (h : s.Measuring)

/-- The ranges of the duties, the lights and the counters, and R42 (h): the same in every mode. -/
structure State.Ranges (p : Config.Params) (s : State) : Prop where
  seq : s.seq.toNat ≤ 2
  presc : s.presc.toNat ≤ p.clkPerUsPred.toNat
  tcount : s.tcount.toNat ≤ 9
  duties : dutyLegal s.dutyLA ∧ dutyLegal s.dutyLB ∧ dutyLegal s.dutyRA ∧ dutyLegal s.dutyRB
  lights : ∀ i : Fin 4, dutyLegal s.light[i]
  pairs : pairLegal s.dutyLA s.dutyLB ∧ pairLegal s.dutyRA s.dutyRB
  failedInit : s.initFailed = true → outputsAtReset s = true

theorem ErrCode.bits_le (e : ErrCode) : e.bits.toNat ≤ 5 := by
  cases e <;> decide

theorem curIsRange_iff {w : Word} : curIsRange w = true ↔ w = encode .range := beq_iff_eq

/-- The word of a command names its transactions. -/
@[simp] theorem curTxns_encode (i : Instr) : curTxns (encode i) = txns i := by
  simp [curTxns, decode_encode]

@[simp] theorem curIsBus_encode (i : Instr) : curIsBus (encode i) = isBusCommand i := by
  rw [curIsBus, curTxns_encode, isBusCommand]

theorem curIsBus_zero : curIsBus 0 = false := by decide

theorem curIsRange_zero : curIsRange 0 = false := by decide

theorem curIsRange_of_bus {w : Word} (h : curIsBus w = true) : curIsRange w = false := by
  rw [Bool.eq_false_iff]
  intro hr
  rw [curIsRange_iff.1 hr] at h
  simp [isBusCommand, txns] at h

/-- With no measurement the trigger line is low (R42 (e)). -/
theorem trig_eq_false {s : State} (h : s.trig = true ↔ s.rstate = .triggered) (hr : s.rstate = .idle) :
    s.trig = false := by
  rw [Bool.eq_false_iff, Ne, h, hr]
  decide

/-- R42 (h) says nothing of a block whose initialisation did not fail. -/
theorem never_of_eq_false {b : Bool} {P : Prop} (h : b = false) (h' : b = true) : P := by simp [h] at h'

theorem State.Inv.ranges {p : Config.Params} {s : State} (h : s.Inv p) : s.Ranges p where
  seq := h.legal.seqRange
  presc := h.legal.prescRange
  tcount := h.legal.tcountRange
  duties := h.invariants.dutyRange
  lights := h.invariants.lightRange
  pairs := h.invariants.dutyPairs
  failedInit := h.invariants.failedInit

theorem State.Inv.mode {p : Config.Params} {s : State} (h : s.Inv p) : s.Mode := by
  obtain ⟨hinv, hleg⟩ := h
  cases hd : s.initDone with
  | false =>
    obtain ⟨hb, hc, hr⟩ := hinv.beforeInit hd
    obtain ⟨hf, hfresh⟩ := hleg.freshBeforeInit hd
    have hv : s.bValid = false := by
      rw [Bool.eq_false_iff, Ne, hinv.busValid, hc, curIsBus_zero]
      simp
    exact .starting ⟨hd, hb, hf, hv, hr, trig_eq_false hinv.trigger hr, hc, hleg.prescIdle hr, hfresh⟩
  | true =>
    cases hb : s.busy with
    | false =>
      have hv : s.bValid = false := by
        rw [Bool.eq_false_iff, Ne, hinv.busValid, hb]
        simp
      have hr : s.rstate = .idle := by
        by_contra hne
        simpa [hb] using hinv.ranging.1 hne
      exact .ready ⟨⟨hd, hb, hv, hr⟩, trig_eq_false hinv.trigger hr, hleg.idleCur hb, hleg.prescIdle hr⟩
    | true =>
      have hf : s.initFailed = false := by
        rw [Bool.eq_false_iff]
        intro hf
        simp [hleg.failedIdle hf] at hb
      rcases hinv.busyCommand hb hd with hbus | hrange
      · have hv := hinv.busValid.2 ⟨hb, hbus⟩
        have hr : s.rstate = .idle := by
          by_contra hne
          simpa [curIsRange_of_bus hbus] using hinv.ranging.1 hne
        exact .sending ⟨hd, hb, hf, hv, hr, trig_eq_false hinv.trigger hr, hbus, hleg.prescIdle hr, hleg.seqInList hv⟩
      · have hv : s.bValid = false := by
          rw [Bool.eq_false_iff, Ne, hinv.busValid, curIsRange_iff.1 hrange]
          simp [isBusCommand, txns]
        exact .measuring ⟨hd, hb, hf, hv, hinv.ranging.2 ⟨hb, hrange⟩, hinv.trigger, curIsRange_iff.1 hrange⟩

/-- R42 follows from the mode and the ranges. -/
theorem State.Inv.of_mode {p : Config.Params} {s : State} (hr : s.Ranges p) (hm : s.Mode) : s.Inv p := by
  obtain ⟨hseq, hpresc, htcount, hduties, hlights, hpairs, hfailed⟩ := hr
  have hcode := s.lastErr.bits_le
  cases hm with
  | starting h =>
    obtain ⟨hinit, hbusy, hfail, htxn, hidle, htrig, hcur, hzero, hfresh⟩ := h
    have hbus : curIsBus s.cur = false := by rw [hcur, curIsBus_zero]
    have hrange : curIsRange s.cur = false := by rw [hcur, curIsRange_zero]
    constructor <;> constructor <;> simp_all
  | ready h =>
    obtain ⟨⟨hinit, hbusy, htxn, hidle⟩, htrig, hcur, hzero⟩ := h
    constructor <;> constructor <;> simp_all
  | sending h =>
    obtain ⟨hinit, hbusy, hfail, htxn, hidle, htrig, hbus, hzero, hlist⟩ := h
    have hrange := curIsRange_of_bus hbus
    constructor <;> constructor <;> simp_all
  | measuring h =>
    obtain ⟨hinit, hbusy, hfail, htxn, hranging, htrig, hcur⟩ := h
    have hbus : curIsBus s.cur = false := by rw [hcur, curIsBus_encode]; rfl
    have hrange : curIsRange s.cur = true := curIsRange_iff.2 hcur
    constructor <;> constructor <;> simp_all

/-- In a legal state the stall is the mode's: a state with BUSY = 0 is ready. -/
theorem State.Inv.ready {p : Config.Params} {s : State} (h : s.Inv p) (hb : s.busy = false) : s.Ready := by
  cases h.mode with
  | ready hr => exact hr
  | starting hm | sending hm | measuring hm => simp [hm.busy] at hb

/-- In a legal state with RSTATE not IDLE a measurement is in flight. -/
theorem State.Inv.measuring {p : Config.Params} {s : State} (h : s.Inv p) (hr : s.rstate ≠ .idle) : s.Measuring := by
  cases h.mode with
  | measuring hm => exact hm
  | starting hm | ready hm | sending hm => exact absurd hm.noRanging hr

/-! ### What R42 does not speak of: the button latch, BUS_FAULT and the model's own fields -/

theorem lights_zero_legal : ∀ i : Fin 4, dutyLegal (Vector.replicate 4 (0 : Duty))[i] = true := by decide

/-- The reset state is one before the initialisation step (R154). -/
theorem inv_reset (p : Config.Params) : State.reset.Inv p :=
  .of_mode ⟨by decide, Nat.zero_le _, by decide, by decide, lights_zero_legal, by decide, by decide⟩
    (.starting ⟨rfl, rfl, rfl, rfl, rfl, rfl, rfl, rfl, by decide⟩)

theorem State.Inv.same {p : Config.Params} {s : State} (h : s.Inv p) (b : BitVec 4) (v : Bool) (q : List PortInputs)
    (n : Nat) (tr : List (Nat × Event)) :
    State.Inv p { s with btnLatch := b, busFault := v, inputs := q, cycle := n, trace := tr } :=
  ⟨{ h.invariants with }, { h.legal with }⟩

theorem inv_resetEdge (p : Config.Params) (s : State) : (resetEdge s).Inv p :=
  (inv_reset p).same 0 false s.inputs s.cycle s.trace

theorem State.Inv.record {p : Config.Params} {s : State} (h : s.Inv p) (e : Event) : (record e s).Inv p :=
  h.same s.btnLatch s.busFault s.inputs s.cycle _

theorem State.Inv.sampled {p : Config.Params} {s : State} (h : s.Inv p) (x : PortInputs) :
    (sampleButtons x (beginCycle s)).Inv p :=
  h.same _ s.busFault _ _ _

theorem State.Inv.registerWrite {p : Config.Params} {s : State} (h : s.Inv p) (a : BitVec 6) (w : Word) (failing : Bool) :
    (registerWrite a w failing s).Inv p := by
  by_cases ha : a = 1
  · rw [ha, registerWrite_status]
    exact h.same s.btnLatch _ s.inputs s.cycle s.trace
  · rw [registerWrite_of_ne_status ha]
    exact h

/-! ### The bus sequencer and the initialisation step -/

theorem txns_length_le (i : Instr) : (txns i).length ≤ 3 := by
  cases i <;> simp [txns]

theorem curTxns_length_le (w : Word) : (curTxns w).length ≤ 3 := by
  unfold curTxns
  split
  · exact txns_length_le _
  · decide

/-- The end of a bus command leaves the block ready, with every other element in its range. -/
theorem inv_closeBus {p : Config.Params} {s : State} (h : s.Ranges p) (hs : s.Sending) (code : ErrCode) :
    (closeBus code s).Inv p :=
  .of_mode { h with seq := Nat.zero_le _ }
    (.ready ⟨⟨hs.initDone, rfl, rfl, hs.noRanging⟩, hs.noTrig, rfl, hs.presc⟩)

theorem inv_busCycle {p : Config.Params} {x : PortInputs} {s t : State} (h : s.Inv p)
    (hb : busCycle p x s = .next t) : t.Inv p := by
  rcases busCycle_cases hb with ⟨-, rfl⟩ | ⟨-, -, -, rfl⟩ | ⟨f, hv, -, -, rfl⟩
  · exact h
  · exact h
  have hs : s.Sending := by
    cases h.mode with
    | sending hm => exact hm
    | starting hm | ready hm | measuring hm => simp [hm.noTxn] at hv
  rcases answerTxn_cases p x.bOk f s with ⟨-, ht⟩ | ⟨-, hlt, ht⟩ | ⟨-, -, ht⟩ <;> rw [ht]
  · exact inv_closeBus (s := { record (busEvent p f s.ulBuf false) s with busFault := true }) { h.ranges with } { hs with } .bus
  · have hlen := curTxns_length_le s.cur
    have hseq : (s.seq + 1).toNat = s.seq.toNat + 1 := by
      rw [BitVec.toNat_add]
      exact Nat.mod_eq_of_lt (by change s.seq.toNat + 1 < 4; omega)
    exact .of_mode { h.ranges with seq := by change (s.seq + 1).toNat ≤ 2; omega }
      (.sending { hs with seqInList := by change (s.seq + 1).toNat < (curTxns s.cur).length; omega })
  · exact inv_closeBus (s := record (busEvent p f s.ulBuf true) s) { h.ranges with } { hs with } .ok

theorem inv_initialise {p : Config.Params} {s : State} (h : s.Inv p) (x : PortInputs) : (initialise x s).Inv p := by
  cases h.mode with
  | starting hs =>
    rw [initialise_of_not_done hs.initDone]
    exact .of_mode { h.ranges with failedInit := fun _ => hs.fresh }
      (.ready ⟨⟨rfl, rfl, hs.noTxn, hs.noRanging⟩, hs.noTrig, hs.cur, hs.presc⟩)
  | ready hm => rwa [initialise_of_done hm.initDone]
  | sending hm | measuring hm => rwa [initialise_of_done hm.initDone]

/-! ### The ranging timer -/

/-- PRESC after a cycle of a measurement stays in its range: it goes up only short of a tick. -/
theorem presc_succ_le {p : Config.Params} {s : State} (h : s.presc.toNat ≤ p.clkPerUsPred.toNat)
    (ht : isTick p s = false) : (s.presc + 1).toNat ≤ p.clkPerUsPred.toNat := by
  have hne : s.presc.toNat ≠ p.clkPerUsPred.toNat := fun heq =>
    absurd (beq_iff_eq.2 (BitVec.eq_of_toNat_eq heq)) (Bool.eq_false_iff.1 ht)
  have hlt := p.clkPerUsPred.isLt
  rw [BitVec.toNat_add]
  have hmod : (s.presc.toNat + 1) % 2 ^ 32 = s.presc.toNat + 1 := Nat.mod_eq_of_lt (by omega)
  exact hmod.le.trans (by omega)

/-- The end of a measurement leaves the block ready. -/
theorem ready_of_measured {s : State} (hi : s.initDone = true) (hv : s.bValid = false) (ht : s.trig = false)
    (code : ErrCode) : (complete code { s with rstate := .idle, presc := 0, cur := 0 }).Ready :=
  ⟨⟨hi, rfl, hv, rfl⟩, ht, rfl, rfl⟩

/-- The timeout step of a measurement past its trigger pulse keeps it in flight or ends it. -/
theorem inv_timeoutStep {p : Config.Params} {s : State} (h : s.Ranges p) (hm : s.Measuring) :
    (timeoutStep p s).Inv p := by
  rcases timeoutStep_cases p s with ⟨-, ht⟩ | ⟨-, -, ht⟩ | ⟨-, -, ht⟩ <;> rw [ht]
  · exact .of_mode h (.measuring hm)
  · exact .of_mode { h with presc := Nat.zero_le _, failedInit := never_of_eq_false hm.initFailed }
      (.ready (ready_of_measured (s := { s with trig := false }) hm.initDone hm.noTxn rfl .noEcho))
  · exact .of_mode { h with } (.measuring { hm with })

theorem inv_tickTriggered {p : Config.Params} {s : State} (h : s.Ranges p) (hm : s.Measuring) :
    (tickTriggered s).Inv p := by
  unfold tickTriggered
  split
  next =>
    exact .of_mode { h with tcount := Nat.zero_le _, failedInit := never_of_eq_false hm.initFailed }
      (.measuring { hm with ranging := by simp, trigger := by simp })
  next hne =>
    have hle := h.tcount
    have hnine : s.tcount.toNat ≠ 9 := fun heq => hne (BitVec.eq_of_toNat_eq heq)
    have hsucc : (s.tcount + 1).toNat = s.tcount.toNat + 1 := by
      rw [BitVec.toNat_add]
      exact Nat.mod_eq_of_lt (by change s.tcount.toNat + 1 < 16; omega)
    exact .of_mode { h with tcount := by change (s.tcount + 1).toNat ≤ 9; omega } (.measuring { hm with })

/-- Past the trigger pulse the trigger line is low (R42 (e)). -/
theorem State.Measuring.noTrig {s : State} (hm : s.Measuring) (hr : s.rstate ≠ .triggered) : s.trig = false := by
  rw [Bool.eq_false_iff, Ne, hm.trigger]
  exact hr

theorem inv_tickAwaitStart {p : Config.Params} {s : State} (h : s.Ranges p) (hm : s.Measuring)
    (hr : s.rstate = .awaitStart) (e : Bool) : (tickAwaitStart p e s).Inv p := by
  have hlow := hm.noTrig (by rw [hr]; decide)
  cases e with
  | false => exact inv_timeoutStep h hm
  | true =>
    exact inv_timeoutStep (s := { s with hcount := 1, rstate := .awaitEnd }) { h with }
      { hm with ranging := by simp, trigger := by simp [hlow] }

theorem inv_tickAwaitEnd {p : Config.Params} {s : State} (h : s.Ranges p) (hm : s.Measuring)
    (hr : s.rstate = .awaitEnd) (e : Bool) : (tickAwaitEnd p e s).Inv p := by
  have hlow := hm.noTrig (by rw [hr]; decide)
  cases e with
  | false =>
    exact .of_mode { h with presc := Nat.zero_le _ }
      (.ready (ready_of_measured
        (s := { s with rangeUs := s.hcount, rangeDist := rangeDistance s.hcount, rangeValid := true })
        hm.initDone hm.noTxn hlow .ok))
  | true => exact inv_timeoutStep (s := { s with hcount := sat32 (s.hcount.toNat + 1) }) { h with } { hm with }

theorem inv_rangeCycle {p : Config.Params} {s : State} (h : s.Inv p) (x : PortInputs) : (rangeCycle p x s).Inv p := by
  have hr := h.ranges
  have hr0 : State.Ranges p { s with presc := 0 } := { hr with presc := Nat.zero_le _ }
  rcases rangeCycle_cases p x s with ⟨-, ht⟩ | ⟨hs, hn, ht⟩ | ⟨hs, -, ht⟩ | ⟨hs, -, ht⟩ | ⟨hs, -, ht⟩ <;> rw [ht]
  · exact h
  · exact .of_mode { hr with presc := presc_succ_le hr.presc hn } (.measuring { h.measuring hs with })
  all_goals have hm : State.Measuring { s with presc := 0 } := { h.measuring (by rw [hs]; decide) with }
  · exact inv_tickTriggered hr0 hm
  · exact inv_tickAwaitStart hr0 hm hs x.echo
  · exact inv_tickAwaitEnd hr0 hm hs x.echo

/-! ### The commands -/

/-- A completion keeps a ready block legal. -/
theorem inv_complete {p : Config.Params} {s : State} (h : s.Ranges p) (hs : s.Ready) (code : ErrCode) :
    (complete code s).Inv p :=
  .of_mode { h with } (.ready { hs with notBusy := rfl })

/-- A bus command accepted by a ready block is legally in flight. -/
theorem inv_startBus {p : Config.Params} {s : State} (h : s.Ranges p) (hs : s.Ready) (hf : s.initFailed = false)
    {i : Instr} (hi : isBusCommand i = true) : (startBus (encode i) s).Inv p := by
  have hpos : 0 < (txns i).length := List.length_pos_iff.2 fun hnil => by simp [isBusCommand, hnil] at hi
  exact .of_mode { h with seq := Nat.zero_le _ }
    (.sending ⟨hs.initDone, rfl, hf, rfl, hs.noRanging, hs.noTrig, by simpa using hi, hs.presc, by simpa using hpos⟩)

/-- The duties of a legal speed are legal, and one of them is 1.0 (R42 (f), (g)). -/
theorem dual_legal {n : Int} (hlo : -16384 ≤ n) (hhi : n ≤ 16384) :
    dutyLegal (dual n).1 = true ∧ dutyLegal (dual n).2 = true ∧ pairLegal (dual n).1 (dual n).2 = true := by
  obtain ⟨-, -, -, hA, hB⟩ := AcceptanceProofs.dualDutyMapping n hlo hhi
  refine ⟨decide_eq_true hA, decide_eq_true hB, ?_⟩
  rcases lt_trichotomy n 0 with hneg | rfl | hpos
  · simp [pairLegal, dual_of_neg hneg]
  · rfl
  · simp [pairLegal, dual_of_pos hpos]

theorem ranges_setMotor {p : Config.Params} {s : State} (h : s.Ranges p) (hf : s.initFailed = false) {n : Int}
    (hlo : -16384 ≤ n) (hhi : n ≤ 16384) (m : Motor) :
    (setMotor m (dual n) { s with motorEn := true }).Ranges p := by
  obtain ⟨hA, hB, hpair⟩ := dual_legal hlo hhi
  obtain ⟨hLA, hLB, hRA, hRB⟩ := h.duties
  obtain ⟨hL, hR⟩ := h.pairs
  cases m with
  | left => exact { h with duties := ⟨hA, hB, hRA, hRB⟩, pairs := ⟨hpair, hR⟩, failedInit := never_of_eq_false hf }
  | right => exact { h with duties := ⟨hLA, hLB, hA, hB⟩, pairs := ⟨hL, hpair⟩, failedInit := never_of_eq_false hf }

theorem ready_setMotor {s : State} (h : s.Ready) (m : Motor) (d : Duty × Duty) :
    (setMotor m d { s with motorEn := true }).Ready := by
  cases m <;> exact { h with }

theorem inv_setBothMotors {p : Config.Params} {s : State} (h : s.Ranges p) (hs : s.Ready) (hf : s.initFailed = false)
    {n : Int} (hlo : -16384 ≤ n) (hhi : n ≤ 16384) : (complete .ok (setBothMotors n s)).Inv p :=
  have hleft := ranges_setMotor h hf hlo hhi .left
  have hready := ready_setMotor hs .left (dual n)
  inv_complete (ranges_setMotor hleft hf hlo hhi .right) (ready_setMotor hready .right (dual n)) .ok

theorem ranges_set_light {p : Config.Params} {s : State} (h : s.Ranges p) (hf : s.initFailed = false) (n : Fin 4)
    {v : Duty} (hv : dutyLegal v = true) : State.Ranges p { s with light := s.light.set n v } := by
  refine { h with lights := fun i => ?_, failedInit := never_of_eq_false hf }
  change dutyLegal (s.light.set n v)[i.val] = true
  rw [Vector.getElem_set]
  split_ifs
  · exact hv
  · exact h.lights i

/-- Every command accepted by a ready block leaves a legal state. -/
theorem inv_accepted {p : Config.Params} {s : State} (h : s.Ranges p) (hs : s.Ready) (hf : s.initFailed = false)
    (i : Instr) : (accepted i s).Inv p := by
  cases hi : i.wellFormed with
  | false =>
    rw [accepted_of_illFormed hi]
    exact inv_complete h hs .operand
  | true =>
    cases i
    case ledSetMask mask =>
      exact inv_startBus (s := { s with ledMask := mask }) { h with failedInit := never_of_eq_false hf } { hs with } hf rfl
    case ulSet r g b =>
      exact inv_startBus (s := { s with ulBuf := replicateColour r g b }) { h with failedInit := never_of_eq_false hf }
        { hs with } hf rfl
    case ulClear =>
      exact inv_startBus (s := { s with ulBuf := zeroBuffer }) { h with failedInit := never_of_eq_false hf } { hs with } hf rfl
    case ledReset | ledEnable | ledDisable | ledOutput | ulShow => exact inv_startBus h hs hf rfl
    case btnLight btn v =>
      rw [accepted_btnLight hi]
      exact inv_complete (ranges_set_light h hf _ hi) { hs with } .ok
    case btnLightsClear =>
      exact inv_complete (s := { s with light := Vector.replicate 4 0 })
        { h with lights := lights_zero_legal, failedInit := never_of_eq_false hf } { hs with } .ok
    case motorSet m v =>
      have hv : speedInRange v = true := (speedInRange_eq_legal v).trans hi
      obtain ⟨hlo, hhi⟩ := (speedInRange_iff v).1 hv
      rw [accepted_motorSet hv]
      exact inv_complete (ranges_setMotor h hf hlo hhi m) (ready_setMotor hs m _) .ok
    case motorForward | motorBackward | motorStop => exact inv_setBothMotors h hs hf (by decide) (by decide)
    case range =>
      exact .of_mode { h with presc := Nat.zero_le _, tcount := Nat.zero_le _, failedInit := never_of_eq_false hf }
        (.measuring ⟨hs.initDone, rfl, hf, hs.noTxn, by simp [accepted], by simp [accepted], rfl⟩)

theorem inv_acceptWord {p : Config.Params} {s t : State} (h : s.Inv p) (hb : s.busy = false) {w : Word}
    (ht : acceptWord w s = .next t) : t.Inv p := by
  have hr : (record (.accept w) s).Inv p := h.record _
  have hs : (record (.accept w) s).Ready := hr.ready hb
  cases hf : s.initFailed with
  | true =>
    cases ht.symm.trans (acceptWord_of_failed hf w)
    exact inv_complete hr.ranges hs .notReady
  | false =>
    rcases acceptWord_cases ht with ⟨i, hi, -⟩ | ⟨-, rfl⟩
    · cases ht.symm.trans (acceptWord_of_decode hi hf)
      exact inv_accepted hr.ranges hs hf i
    · exact inv_complete hr.ranges hs _

/-! ### Whole cycles -/

theorem inv_units {p : Config.Params} {x : PortInputs} {s s1 : State} (h : s.Inv p)
    (hb : busCycle p x (sampleButtons x (beginCycle s)) = .next s1) : (rangeCycle p x (initialise x s1)).Inv p :=
  inv_rangeCycle (inv_initialise (inv_busCycle (h.sampled x) hb) x) x

/-- In a cycle that begins with BUSY = 0 the units leave BUSY at 0. -/
theorem busy_of_units {p : Config.Params} {x : PortInputs} {s s1 : State} (h : s.Idle)
    (hb : busCycle p x (sampleButtons x (beginCycle s)) = .next s1) :
    (rangeCycle p x (initialise x s1)).busy = false := by
  have hunits : unitsCycle p x s = .next (rangeCycle p x (initialise x s1)) := by
    simp only [unitsCycle, hb, andThen_next]
  rw [unitsCycle_of_idle h] at hunits
  rw [← Host.Outcome.next.inj hunits]
  exact h.notBusy

theorem inv_cycleWith {p : Config.Params} {x : PortInputs} {s t : State} (h : s.Inv p)
    (ht : cycleWith p x s = .next t) : t.Inv p := by
  obtain ⟨-, ⟨-, rfl⟩ | ⟨-, s1, hbus, hhost⟩⟩ := cycleWith_cases ht
  · exact inv_resetEdge p _
  · have hu := inv_units h hbus
    rcases hostCycle_cases hhost with ⟨-, rfl⟩ | ⟨-, -, rfl⟩ | ⟨-, -, -, hb, haccept⟩ | ⟨-, -, -, rfl⟩
    · exact hu
    · exact hu.record _
    · exact inv_acceptWord (hu.record _) (busy_of_units (h.ready hb).toIdle hbus) haccept
    · exact (hu.record _).registerWrite _ _ _

/-! ### Progress (R133) -/

theorem hostCycle_eq_next (x : PortInputs) (s0 s : State) : ∃ t, hostCycle x s0 s = .next t := by
  unfold hostCycle
  split
  · split
    · exact ⟨_, rfl⟩
    · split
      · exact acceptWord_eq_next _ _
      · exact ⟨_, rfl⟩
  · exact ⟨_, rfl⟩

/-- The sequencer's fault needs a transaction number that the command in CUR does not have. -/
theorem busCycle_eq_next {p : Config.Params} {s : State}
    (h : s.bValid = true → s.seq.toNat < (curTxns s.cur).length) (x : PortInputs) :
    ∃ t, busCycle p x s = .next t := by
  cases hv : s.bValid with
  | false => exact ⟨s, busCycle_of_not_valid hv p x⟩
  | true =>
    have hf : currentTxn s = some ((curTxns s.cur)[s.seq.toNat]'(h hv)) := List.getElem?_eq_getElem (h hv)
    simp only [busCycle, hv, hf, if_true]
    exact ⟨_, rfl⟩

end Sys2Proof.Machine

namespace Sys2Proof.LegalityProofs

open Sys2Proof.Machine

/-- Settles O19: the reset state is in the mode before the initialisation step. -/
theorem resetStateIsLegal : Obligations.ResetStateIsLegal := inv_reset

/-- Settles O20: unit by unit, in the order of a cycle. -/
theorem stepKeepsLegalStates : Obligations.StepKeepsLegalStates :=
  ⟨fun _ _ _ _ h ht => inv_cycleWith h ht, fun _ _ h ht => inv_cycleWith h ht⟩

/-- Settles O21, by induction on the run. -/
theorem reachableStatesSatisfyInvariants : Obligations.ReachableStatesSatisfyInvariants := by
  intro p s hs
  have hinv : s.Inv p := by
    induction hs with
    | atReset => exact resetStateIsLegal p
    | afterCycle x _ hcycle ih => exact inv_cycleWith ih hcycle
  exact hinv.invariants

/-- Settles O22: the one fault needs a state that SEQ's range excludes. -/
theorem legalStatesNeverStop : Obligations.LegalStatesNeverStop := by
  intro p x s h hq
  cases hrst : x.rst with
  | true => exact ⟨_, cycleWith_of_rst hq hrst p s⟩
  | false =>
    obtain ⟨s1, hbus⟩ := busCycle_eq_next (p := p) (s := sampleButtons x (beginCycle s)) h.legal.seqInList x
    rw [cycleWith_of_legal hq hrst]
    simp only [unitsCycle, hbus, andThen_next]
    exact hostCycle_eq_next x s _

end Sys2Proof.LegalityProofs
end

section
/-!
The registers byte by byte (10_state.md R26 to R32), the stalled CMD write (R51), and what a whole cycle does outside the unit
that a statement is about: frames, the history and the inputs that do not matter.
-/

namespace Sys2Proof.Machine

/-! ### Reads (R24 to R32) -/

theorem memRead_ulBuf {k : Nat} (hk : k < 5) (s : State) : memRead (BitVec.ofNat 6 (10 + k)) s = ulBufWord k s := by
  interval_cases k <;> rfl

/-- Byte j of a UL_BUF register (R32). -/
theorem ulBufWord_byte (k : Nat) {j : Nat} (hj : j < 4) (s : State) :
    (ulBufWord k s).extractLsb' (8 * j) 8 = ulByte s (4 * k + j) := by
  change (ulByte s (4 * k + 3) ++ ulByte s (4 * k + 2) ++ ulByte s (4 * k + 1) ++ ulByte s (4 * k)).extractLsb' _ 8 = _
  interval_cases j
  · exact BitVec.extractLsb'_append_eq_right
  · rw [BitVec.extractLsb'_append_eq_of_le (by decide)]
    exact BitVec.extractLsb'_append_eq_right
  · rw [BitVec.extractLsb'_append_eq_of_le (by decide), BitVec.extractLsb'_append_eq_of_le (by decide)]
    exact BitVec.extractLsb'_append_eq_right
  · rw [BitVec.extractLsb'_append_eq_of_le (by decide), BitVec.extractLsb'_append_eq_of_le (by decide)]
    exact BitVec.extractLsb'_append_eq_left

theorem ulByte_of_lt {c : Nat} (h : c < 18) (s : State) : ulByte s c = s.ulBuf[c] := by
  simp [ulByte, h]

theorem byteOffset_eq (a : BitVec 6) : byteOffset a = 4 * a.zeroExtend 8 := by
  revert a; decide

/-! ### The host port of a cycle, without and with an acceptance -/

/-- A CMD write is accepted in the cycle (R51). -/
structure AcceptsCommand (x : PortInputs) (s : State) : Prop where
  completes : transferCompletes x s = true
  noRead : x.hRd = false
  write : x.hWr = true
  cmd : x.hAddr = 0
  idle : s.busy = false

theorem registerWrite_eq (a : BitVec 6) (w : Word) (failing : Bool) (s : State) :
    ∃ v, registerWrite a w failing s = { s with busFault := v } := by
  by_cases ha : a = 1
  · exact ⟨_, ha ▸ registerWrite_status w failing s⟩
  · exact ⟨_, registerWrite_of_ne_status ha w failing s⟩

/-- Short of an acceptance the host port changes BUS_FAULT and the history at most. -/
theorem hostCycle_effect {x : PortInputs} {s0 s t : State} (h : hostCycle x s0 s = .next t) :
    (∃ v tr, t = { s with busFault := v, trace := tr }) ∨
    (AcceptsCommand x s0 ∧ acceptWord x.hWdata (record (.hostWrite (byteOffset x.hAddr) x.hWdata) s) = .next t) := by
  rcases hostCycle_cases h with ⟨-, rfl⟩ | ⟨-, -, rfl⟩ | ⟨hc, hrd, ha, hb, haccept⟩ | ⟨-, -, -, rfl⟩
  · exact .inl ⟨t.busFault, t.trace, rfl⟩
  · exact .inl ⟨_, _, rfl⟩
  · obtain ⟨-, ⟨hrd', -⟩ | ⟨-, hwr, -⟩⟩ := transferCompletes_cases hc
    · simp [hrd] at hrd'
    · exact .inr ⟨⟨hc, hrd, hwr, ha, hb⟩, haccept⟩
  · obtain ⟨v, hv⟩ := registerWrite_eq x.hAddr x.hWdata (txnFails x s0)
      (record (.hostWrite (byteOffset x.hAddr) x.hWdata) s)
    exact .inl ⟨v, _, hv⟩

/-- What the units leave alone in a cycle outside reset (R34): the motors, the buffers and the lights. -/
structure SameOutsideUnits (s t : State) : Prop where
  motorEn : t.motorEn = s.motorEn
  dutyLA : t.dutyLA = s.dutyLA
  dutyLB : t.dutyLB = s.dutyLB
  dutyRA : t.dutyRA = s.dutyRA
  dutyRB : t.dutyRB = s.dutyRB
  light : t.light = s.light
  ledMask : t.ledMask = s.ledMask
  ulBuf : t.ulBuf = s.ulBuf

theorem units_frame {p : Config.Params} {x : PortInputs} {s s1 : State}
    (h : busCycle p x (sampleButtons x (beginCycle s)) = .next s1) :
    SameOutsideUnits s (rangeCycle p x (initialise x s1)) := by
  have f := busCycle_frame h
  constructor <;> simp [f.motorEn, f.dutyLA, f.dutyLB, f.dutyRA, f.dutyRB, f.light, f.ledMask, f.ulBuf]

/-- A cycle outside reset keeps the outputs and the buffers, or it accepts a word in a state that still has them. -/
theorem cycleWith_effect {p : Config.Params} {x : PortInputs} {s t : State} (hrst : x.rst = false)
    (h : cycleWith p x s = .next t) :
    SameOutsideUnits s t ∨
    (AcceptsCommand x s ∧ ∃ u, SameOutsideUnits s u ∧ acceptWord x.hWdata u = .next t) := by
  obtain ⟨-, ⟨hr, -⟩ | ⟨-, s1, hbus, hhost⟩⟩ := cycleWith_cases h
  · simp [hrst] at hr
  have f := units_frame hbus
  rcases hostCycle_effect hhost with ⟨v, tr, rfl⟩ | ⟨ha, haccept⟩
  · exact .inl { f with }
  · refine .inr ⟨ha, _, ?_, haccept⟩
    exact { f with }

/-! ### What a command moves -/

/-- MOTOR_SET and the fixed-speed commands (R110 to R113). -/
def IsMotorCommand (i : Instr) : Prop :=
  (∃ m v, i = .motorSet m v) ∨ i ∈ [Instr.motorForward, .motorBackward, .motorStop]

theorem accepted_motors (i : Instr) (s : State) :
    ((accepted i s).motorEn = s.motorEn ∧ (accepted i s).dutyLA = s.dutyLA ∧ (accepted i s).dutyLB = s.dutyLB ∧
      (accepted i s).dutyRA = s.dutyRA ∧ (accepted i s).dutyRB = s.dutyRB) ∨
    (IsMotorCommand i ∧ (accepted i s).motorEn = true) := by
  cases hi : i.wellFormed with
  | false =>
    rw [accepted_of_illFormed hi]
    exact .inl ⟨rfl, rfl, rfl, rfl, rfl⟩
  | true =>
    cases i
    case motorSet m v =>
      rw [accepted_motorSet ((speedInRange_eq_legal v).trans hi)]
      exact .inr ⟨.inl ⟨m, v, rfl⟩, by simp⟩
    case motorForward | motorBackward | motorStop => exact .inr ⟨.inr (by simp), rfl⟩
    case btnLight btn v =>
      rw [accepted_btnLight hi]
      exact .inl ⟨rfl, rfl, rfl, rfl, rfl⟩
    all_goals exact .inl ⟨rfl, rfl, rfl, rfl, rfl⟩

/-- UL_BUF, LED_MASK and the lights, each changed by its own commands only (R31, R32, D38). -/
theorem accepted_buffers (i : Instr) (s : State) :
    ((accepted i s).ulBuf = s.ulBuf ∨ i = .ulClear ∨ ∃ r g b, i = .ulSet r g b) ∧
    ((accepted i s).ledMask = s.ledMask ∨ ∃ m, i = .ledSetMask m ∧ (accepted i s).ledMask = m) ∧
    ((accepted i s).light = s.light ∨ i = .btnLightsClear ∨ ∃ btn v, i = .btnLight btn v) := by
  cases hi : i.wellFormed with
  | false =>
    rw [accepted_of_illFormed hi]
    exact ⟨.inl rfl, .inl rfl, .inl rfl⟩
  | true =>
    cases i
    case ledSetMask m => exact ⟨.inl rfl, .inr ⟨m, rfl, rfl⟩, .inl rfl⟩
    case ulSet r g b => exact ⟨.inr (.inr ⟨r, g, b, rfl⟩), .inl rfl, .inl rfl⟩
    case ulClear => exact ⟨.inr (.inl rfl), .inl rfl, .inl rfl⟩
    case btnLightsClear => exact ⟨.inl rfl, .inl rfl, .inr (.inl rfl)⟩
    case btnLight btn v =>
      rw [accepted_btnLight hi]
      exact ⟨.inl rfl, .inl rfl, .inr (.inr ⟨btn, v, rfl⟩)⟩
    case motorSet m v =>
      rw [accepted_motorSet ((speedInRange_eq_legal v).trans hi)]
      exact ⟨.inl (by simp), .inl (by simp), .inl (by simp)⟩
    all_goals exact ⟨.inl rfl, .inl rfl, .inl rfl⟩

/-- The acceptance of a word completes with an error or runs its command. -/
theorem acceptWord_effect {w : Word} {s t : State} (h : acceptWord w s = .next t) :
    (∃ code, t = raiseErr code (record (.accept w) s)) ∨
    (∃ i, decode w = some i ∧ t = accepted i (record (.accept w) s)) := by
  cases hs : s.initFailed with
  | true => exact .inl ⟨_, Host.Outcome.next.inj (h.symm.trans (acceptWord_of_failed hs w))⟩
  | false =>
    cases hw : decode w with
    | none => exact .inl ⟨.illegal, Host.Outcome.next.inj (h.symm.trans (acceptWord_of_illegal hw hs))⟩
    | some i => exact .inr ⟨i, rfl, Host.Outcome.next.inj (h.symm.trans (acceptWord_of_decode hw hs))⟩

/-! ### The history (R65) -/

/-- `t` comes later in the cycle that `s` is in: the same cycle and queue, and a history that events of this cycle extend. -/
structure LaterInCycle (s t : State) : Prop where
  cycle : t.cycle = s.cycle
  inputs : t.inputs = s.inputs
  history : ∃ added : List (Nat × Event), t.trace = added ++ s.trace ∧ ∀ e ∈ added, e.1 = s.cycle

namespace LaterInCycle

theorem of_same {s t : State} (hc : t.cycle = s.cycle) (hi : t.inputs = s.inputs) (ht : t.trace = s.trace) :
    LaterInCycle s t :=
  ⟨hc, hi, [], ht, by simp⟩

theorem refl (s : State) : LaterInCycle s s := of_same rfl rfl rfl

theorem trans {s t u : State} (h : LaterInCycle s t) (h' : LaterInCycle t u) : LaterInCycle s u := by
  obtain ⟨a, ha, ha'⟩ := h.history
  obtain ⟨b, hb, hb'⟩ := h'.history
  refine ⟨h'.cycle.trans h.cycle, h'.inputs.trans h.inputs, b ++ a, by rw [hb, ha, List.append_assoc], fun e he => ?_⟩
  rcases List.mem_append.1 he with he | he
  · exact (hb' e he).trans h.cycle
  · exact ha' e he

theorem record (e : Event) (s : State) : LaterInCycle s (record e s) :=
  ⟨rfl, rfl, [(s.cycle, e)], rfl, by simp⟩

theorem complete (code : ErrCode) (s : State) : LaterInCycle s (complete code s) := { record (.complete code) s with }

/-- Events in the history stay. -/
theorem mem {s t : State} (h : LaterInCycle s t) {e : Nat × Event} (he : e ∈ s.trace) : e ∈ t.trace := by
  obtain ⟨added, ht, -⟩ := h.history
  rw [ht]
  exact List.mem_append_right _ he

end LaterInCycle

theorem answerTxn_later (p : Config.Params) (ok : Bool) (f : TxnForm) (s : State) :
    LaterInCycle s (answerTxn p ok f s) := by
  rcases answerTxn_cases p ok f s with ⟨-, h⟩ | ⟨-, -, h⟩ | ⟨-, -, h⟩ <;> rw [h]
  · exact (LaterInCycle.record _ s).trans { LaterInCycle.complete .bus (record (busEvent p f s.ulBuf false) s) with }
  · exact { LaterInCycle.record _ s with }
  · exact (LaterInCycle.record _ s).trans { LaterInCycle.complete .ok (record (busEvent p f s.ulBuf true) s) with }

theorem busCycle_later {p : Config.Params} {x : PortInputs} {s t : State} (h : busCycle p x s = .next t) :
    LaterInCycle s t := by
  rcases busCycle_cases h with ⟨-, rfl⟩ | ⟨-, -, -, rfl⟩ | ⟨f, -, -, -, rfl⟩
  · exact .refl _
  · exact .refl _
  · exact answerTxn_later p x.bOk f s

theorem timeoutStep_later (p : Config.Params) (s : State) : LaterInCycle s (timeoutStep p s) := by
  rcases timeoutStep_cases p s with ⟨-, h⟩ | ⟨-, -, h⟩ | ⟨-, -, h⟩ <;> rw [h]
  · exact .refl _
  · exact { LaterInCycle.complete .noEcho s with }
  · exact .of_same rfl rfl rfl

theorem rangeCycle_later (p : Config.Params) (x : PortInputs) (s : State) : LaterInCycle s (rangeCycle p x s) := by
  rcases rangeCycle_cases p x s with ⟨-, h⟩ | ⟨-, -, h⟩ | ⟨-, -, h⟩ | ⟨-, -, h⟩ | ⟨-, -, h⟩ <;> rw [h]
  · exact .refl _
  · exact .of_same rfl rfl rfl
  · unfold tickTriggered; split <;> exact .of_same rfl rfl rfl
  · unfold tickAwaitStart
    refine .trans ?_ (timeoutStep_later p _)
    split <;> exact .of_same rfl rfl rfl
  · unfold tickAwaitEnd
    split
    · refine .trans ?_ (timeoutStep_later p _)
      exact .of_same rfl rfl rfl
    · exact { LaterInCycle.complete .ok s with }

/-- A command completes at acceptance, with one event, or goes on. -/
theorem accepted_trace (i : Instr) (s : State) :
    (accepted i s).trace = s.trace ∨ ∃ code, (accepted i s).trace = (s.cycle, .complete code) :: s.trace := by
  cases hi : i.wellFormed with
  | false => exact .inr ⟨.operand, by rw [accepted_of_illFormed hi]; rfl⟩
  | true =>
    cases i
    case btnLight btn v =>
      rw [accepted_btnLight hi]
      exact .inr ⟨.ok, rfl⟩
    case motorSet m v =>
      rw [accepted_motorSet ((speedInRange_eq_legal v).trans hi)]
      exact .inr ⟨.ok, by simp⟩
    case btnLightsClear | motorForward | motorBackward | motorStop => exact .inr ⟨.ok, rfl⟩
    all_goals exact .inl rfl

theorem accepted_later (i : Instr) (s : State) : LaterInCycle s (accepted i s) := by
  have frame := accepted_frame i s
  refine ⟨frame.cycle, frame.inputs, ?_⟩
  rcases accepted_trace i s with h | ⟨code, h⟩
  · exact ⟨[], h, by simp⟩
  · exact ⟨[(s.cycle, .complete code)], h, by simp⟩

theorem acceptWord_later {w : Word} {s t : State} (h : acceptWord w s = .next t) :
    LaterInCycle (record (.accept w) s) t := by
  rcases acceptWord_effect h with ⟨code, rfl⟩ | ⟨i, -, rfl⟩
  · exact .complete code _
  · exact accepted_later i _

theorem registerWrite_later (a : BitVec 6) (w : Word) (failing : Bool) (s : State) :
    LaterInCycle s (registerWrite a w failing s) := by
  obtain ⟨v, hv⟩ := registerWrite_eq a w failing s
  rw [hv]
  exact .of_same rfl rfl rfl

theorem hostCycle_later {x : PortInputs} {s0 s t : State} (h : hostCycle x s0 s = .next t) : LaterInCycle s t := by
  rcases hostCycle_cases h with ⟨-, rfl⟩ | ⟨-, -, rfl⟩ | ⟨-, -, -, -, haccept⟩ | ⟨-, -, -, rfl⟩
  · exact .refl _
  · exact .record _ s
  · exact (LaterInCycle.record _ s).trans ((LaterInCycle.record _ _).trans (acceptWord_later haccept))
  · exact (LaterInCycle.record _ s).trans (registerWrite_later _ _ _ _)

theorem units_later {p : Config.Params} {x : PortInputs} {s s1 : State}
    (h : busCycle p x (sampleButtons x (beginCycle s)) = .next s1) :
    LaterInCycle (beginCycle s) (rangeCycle p x (initialise x s1)) := by
  have hinit : LaterInCycle s1 (initialise x s1) := .of_same (by simp) (by simp) (by simp)
  exact { ((busCycle_later h).trans hinit).trans (rangeCycle_later p x _) with }

/-- Every cycle, a reset edge too, begins and then only adds. -/
theorem cycleWith_later {p : Config.Params} {x : PortInputs} {s t : State} (h : cycleWith p x s = .next t) :
    LaterInCycle (beginCycle s) t := by
  obtain ⟨-, ⟨-, rfl⟩ | ⟨-, s1, hbus, hhost⟩⟩ := cycleWith_cases h
  · exact .of_same rfl rfl rfl
  · exact (units_later hbus).trans (hostCycle_later hhost)

/-- The state in which the host port finds the cycle, outside reset. -/
theorem exists_hostCycle {p : Config.Params} {x : PortInputs} {s t : State} (hrst : x.rst = false)
    (h : cycleWith p x s = .next t) : ∃ u, u.cycle = s.cycle + 1 ∧ hostCycle x s u = .next t := by
  obtain ⟨-, ⟨hr, -⟩ | ⟨-, s1, hbus, hhost⟩⟩ := cycleWith_cases h
  · simp [hrst] at hr
  · exact ⟨_, (units_later hbus).cycle, hhost⟩

/-! ### Inputs that do not matter (R127, R148) -/

/-- Off its ticks the ranging timer does not look at the echo line, and in TRIGGERED not on ticks either. -/
theorem rangeCycle_echo {p : Config.Params} {s : State}
    (h : s.rstate = .idle ∨ s.rstate = .triggered ∨ s.presc ≠ p.clkPerUsPred) (x : PortInputs) (e : Bool) :
    rangeCycle p { x with echo := e } s = rangeCycle p x s := by
  rcases h with h | h | h
  · rw [rangeCycle_of_idle h, rangeCycle_of_idle h]
  · simp [rangeCycle, rangeTick, h]
  · have ht : isTick p s = false := beq_eq_false_iff_ne.2 h
    simp [rangeCycle, ht]

theorem busCycle_echo (p : Config.Params) (x : PortInputs) (s : State) (e : Bool) :
    busCycle p { x with echo := e } s = busCycle p x s := rfl

theorem hostCycle_echo (x : PortInputs) (s0 s : State) (e : Bool) :
    hostCycle { x with echo := e } s0 s = hostCycle x s0 s := rfl

theorem unitsCycle_echo {p : Config.Params} {s : State}
    (h : s.rstate = .idle ∨ s.rstate = .triggered ∨ s.presc ≠ p.clkPerUsPred) (x : PortInputs) (e : Bool) :
    unitsCycle p { x with echo := e } s = unitsCycle p x s := by
  have hbus : busCycle p { x with echo := e } (sampleButtons { x with echo := e } (beginCycle s)) =
      busCycle p x (sampleButtons x (beginCycle s)) := busCycle_echo p x _ e
  simp only [unitsCycle, hbus]
  cases hb : busCycle p x (sampleButtons x (beginCycle s)) with
  | next t =>
    have f := busCycle_frame hb
    have h' : (initialise x t).rstate = .idle ∨ (initialise x t).rstate = .triggered ∨
        (initialise x t).presc ≠ p.clkPerUsPred := by simpa [f.rstate, f.presc] using h
    exact congrArg Host.Outcome.next (rangeCycle_echo h' x e)
  | fault f => rfl
  | refused r => rfl

/-! ### A CMD write to an idle block (R51) -/

/-- The units of an idle block sample the buttons, and the host port accepts the word. -/
theorem cycleWith_of_idle_command {p : Config.Params} {x : PortInputs} {s : State} (hs : s.Idle) (hrst : x.rst = false)
    (hrd : x.hRd = false) (hwr : x.hWr = true) (haddr : x.hAddr = 0) :
    cycleWith p x s = acceptWord x.hWdata (record (.hostWrite 0 x.hWdata) (sampleButtons x (beginCycle s))) := by
  have hc : transferCompletes x s = true :=
    transferCompletes_iff.2 (by rw [hReady_of_commandWrite hrst hrd hwr haddr, hs.notBusy]; rfl)
  have hoff : byteOffset x.hAddr = 0 := by rw [haddr]; rfl
  have hcmd : x.hAddr = RegName.cmd.addr := haddr
  rw [cycleWith_of_legal (by simp [requestLegal, hrd]) hrst, unitsCycle_of_idle hs, andThen_next, hostCycle,
    if_pos hc, if_neg (by simp [hrd]), if_pos hcmd, hoff]

/-! ### Runs of the machine -/

theorem pins_of_queue {x : PortInputs} {rest : List PortInputs} {s : State} (h : s.inputs = x :: rest) : s.pins = x := by
  simp [State.pins, h]

/-- The machine's run over a queue that holds the draws is the run over the draws. -/
theorem run_eq_runCycles (xs rest : List PortInputs) (s : State) (h : s.inputs = xs ++ rest) :
    Host.Core.run Sys2Proof.core xs.length s = runCycles Config.params xs s := by
  induction xs generalizing s with
  | nil => rfl
  | cons x xs ih =>
    have hstep : Sys2Proof.core.step s = cycleWith Config.params x s :=
      congrArg (cycleWith Config.params · s) (pins_of_queue h)
    simp only [List.length_cons, Host.Core.run, hstep, runCycles_cons]
    cases hc : cycleWith Config.params x s with
    | next t =>
      have hq : t.inputs = s.inputs.tail := (cycleWith_later hc).inputs
      exact ih t (by rw [hq, h]; rfl)
    | fault f => rfl
    | refused r => rfl

end Sys2Proof.Machine

namespace Sys2Proof.CycleProofs

open Sys2Proof.Machine

/-- Settles O13: each register is the concatenation of its fields, the reserved bits above them. -/
theorem registerReads : Obligations.RegisterReads := fun s =>
  ⟨rfl, BitVec.extractLsb'_append_eq_right (a := 0#28) (b := s.btnLatch), memRead_btn_reserved s, rfl, rfl,
    BitVec.extractLsb'_append_eq_right (a := s.dutyLB) (b := s.dutyLA),
    BitVec.extractLsb'_append_eq_left (a := s.dutyLB) (b := s.dutyLA),
    BitVec.extractLsb'_append_eq_right (a := s.dutyRB) (b := s.dutyRA),
    BitVec.extractLsb'_append_eq_left (a := s.dutyRB) (b := s.dutyRA),
    BitVec.extractLsb'_append_eq_right (a := s.light[1]) (b := s.light[0]),
    BitVec.extractLsb'_append_eq_left (a := s.light[1]) (b := s.light[0]),
    BitVec.extractLsb'_append_eq_right (a := s.light[3]) (b := s.light[2]),
    BitVec.extractLsb'_append_eq_left (a := s.light[3]) (b := s.light[2]),
    BitVec.extractLsb'_append_eq_right (a := 0#14) (b := s.ledMask), memRead_ledMask_reserved s⟩

/-- Settles O14: register c / 4 holds four bytes, and byte c mod 4 of them is byte c of the buffer. -/
theorem underlightRegistersPackLittleEndian : Obligations.UnderlightRegistersPackLittleEndian := by
  refine fun s => ⟨fun c => ?_, memRead_ulBuf4_reserved s⟩
  have hc := c.isLt
  rw [memRead_ulBuf (by omega), ulBufWord_byte _ (Nat.mod_lt _ (by decide)), Nat.div_add_mod, ulByte_of_lt hc]
  rfl

/-- Settles O9: h_ready is 0, so the host port does nothing, and no unit looks at h_wr. -/
theorem commandWriteStallsWhileBusy : Obligations.CommandWriteStallsWhileBusy := by
  intro p x s hrst hrd hwr haddr hb
  have hready : hReady x s = some false := by rw [hReady_of_commandWrite hrst hrd hwr haddr, hb]; rfl
  have hstall : transferCompletes x s = false := by rw [transferCompletes, hready]; rfl
  refine ⟨hready, ?_⟩
  rw [cycleWith_of_legal (by simp [requestLegal, hrd]) hrst,
    cycleWith_of_no_request (x := { x with hWr := false }) hrst hrd rfl, unitsCycle_without_write]
  simp only [hostCycle_of_stalled hstall]
  cases unitsCycle p x s <;> rfl

/-- Settles O18: NOT_READY comes first, and no unit and no command writes INIT_FAILED after the initialisation step. -/
theorem failedInitialisationAnswersNotReady : Obligations.FailedInitialisationAnswersNotReady := by
  refine ⟨fun w s hs => acceptWord_of_failed hs w, fun p x s t hrst hd hf ht => ?_⟩
  obtain ⟨-, ⟨hr, -⟩ | ⟨-, s1, hbus, hhost⟩⟩ := cycleWith_cases ht
  · simp [hrst] at hr
  have f := busCycle_frame hbus
  have hunits : (rangeCycle p x (initialise x s1)).initFailed = true := by
    simpa [f.initDone, f.initFailed, hd] using hf
  rcases hostCycle_effect hhost with ⟨v, tr, rfl⟩ | ⟨-, haccept⟩
  · exact hunits
  · exact (acceptWord_frame haccept).initFailed.trans hunits

/-- Settles O8: the word that the idle block accepts is the command's. -/
theorem stepRunsDecodedCommand : Obligations.StepRunsDecodedCommand := by
  intro s i hs hrst hrd hwr haddr hi
  rw [step, cycleWith_of_idle_command hs hrst hrd hwr haddr, acceptWord, hi]
  rfl

/-- Settles O42: with B_VALID = 0 neither the sequencer nor the failing transaction of a STATUS write sees the answer. -/
theorem answersIgnoredWithoutRequest : Obligations.AnswersIgnoredWithoutRequest := by
  intro p x s d k hv
  have hbus (y : PortInputs) (u : State) (hu : u.bValid = false) : busCycle p y u = .next u :=
    busCycle_of_not_valid hu p y
  have hunits : unitsCycle p { x with bDone := d, bOk := k } s = unitsCycle p x s := by
    simp only [unitsCycle, hbus _ _ (show (sampleButtons x (beginCycle s)).bValid = false from hv),
      hbus _ _ (show (sampleButtons { x with bDone := d, bOk := k } (beginCycle s)).bValid = false from hv)]
    rfl
  have hhost (u : State) : hostCycle { x with bDone := d, bOk := k } s u = hostCycle x s u := by
    simp only [hostCycle, txnFails_of_no_txn hv]
    rfl
  simp only [cycleWith, hunits, hhost]

/-- Settles O48: a word that moves the motors decodes to a motor command. -/
theorem onlyMotorCommandsMoveMotors : Obligations.OnlyMotorCommandsMoveMotors := by
  intro p x s t hrst ht
  rcases cycleWith_effect hrst ht with f | ⟨ha, u, f, haccept⟩
  · exact ⟨fun h => f.motorEn.trans h, .inl (by rw [f.motorEn, f.dutyLA, f.dutyLB, f.dutyRA, f.dutyRB])⟩
  rcases acceptWord_effect haccept with ⟨code, rfl⟩ | ⟨i, hi, rfl⟩
  · refine ⟨fun h => f.motorEn.trans h, .inl ?_⟩
    simp [f.motorEn, f.dutyLA, f.dutyLB, f.dutyRA, f.dutyRB]
  · rcases accepted_motors i (record (.accept x.hWdata) u) with ⟨hen, hLA, hLB, hRA, hRB⟩ | ⟨hmotor, hen⟩
    · refine ⟨fun h => hen.trans (f.motorEn.trans h), .inl ?_⟩
      rw [hen, hLA, hLB, hRA, hRB]
      simp [f.motorEn, f.dutyLA, f.dutyLB, f.dutyRA, f.dutyRB]
    · refine ⟨fun _ => hen, .inr ⟨ha.completes, ha.noRead, ha.cmd, hen, ?_⟩⟩
      rcases hmotor with ⟨m, v, rfl⟩ | hfixed
      · exact .inl ⟨m, v, hi⟩
      · exact .inr ⟨i, hfixed, hi⟩

/-- Settles O49: the same for the buffers, whose commands an accepted word decodes to. -/
theorem buffersChangeOnlyByTheirCommands : Obligations.BuffersChangeOnlyByTheirCommands := by
  intro p x s t hrst ht
  rcases cycleWith_effect hrst ht with f | ⟨ha, u, f, haccept⟩
  · exact ⟨.inl f.ulBuf, .inl f.ledMask, .inl f.light⟩
  have hacc := And.intro ha.completes (And.intro ha.noRead (And.intro ha.write (And.intro ha.cmd ha.idle)))
  rcases acceptWord_effect haccept with ⟨code, rfl⟩ | ⟨i, hi, rfl⟩
  · exact ⟨.inl f.ulBuf, .inl f.ledMask, .inl f.light⟩
  obtain ⟨hbuf, hmask, hlight⟩ := accepted_buffers i (record (.accept x.hWdata) u)
  refine ⟨?_, ?_, ?_⟩
  · rcases hbuf with h | rfl | ⟨r, g, b, rfl⟩
    · exact .inl (h.trans f.ulBuf)
    · exact .inr ⟨hacc, .inl hi⟩
    · exact .inr ⟨hacc, .inr ⟨r, g, b, hi⟩⟩
  · rcases hmask with h | ⟨m, rfl, h⟩
    · exact .inl (h.trans f.ledMask)
    · exact .inr ⟨hacc, m, hi, h⟩
  · rcases hlight with h | rfl | ⟨btn, v, rfl⟩
    · exact .inl (h.trans f.light)
    · exact .inr ⟨hacc, .inl hi⟩
    · exact .inr ⟨hacc, .inr ⟨btn, v, hi⟩⟩

/-- Settles O50: the only unit that reads the echo line is the ranging timer. -/
theorem echoIgnoredOutsideItsTicks : Obligations.EchoIgnoredOutsideItsTicks := by
  intro p x s e h
  simp only [cycleWith, unitsCycle_echo h, hostCycle_echo]

/-- Settles O51: a cycle records its output levels first, and the rest of it only adds. -/
theorem historyOnlyGrows : Obligations.HistoryOnlyGrows := by
  intro p x s t ht
  obtain ⟨hcycle, hinputs, added, htrace, hstamp⟩ := cycleWith_later ht
  refine ⟨hcycle, hinputs, added ++ [(s.cycle + 1, .pins (pinLevels s))], ?_, by simp, fun e he => ?_⟩
  · rw [htrace, List.append_assoc]
    rfl
  · rcases List.mem_append.1 he with he | he
    · exact hstamp e he
    · rw [List.mem_singleton.1 he]

/-- Settles O52: the host port records its transfer, and the acceptance the word, before anything else it does. -/
theorem completedTransfersAreRecorded : Obligations.CompletedTransfersAreRecorded := by
  intro p x s t hrst ht
  obtain ⟨hq, -⟩ := cycleWith_cases ht
  have hreq := requestLegal_iff.1 hq
  obtain ⟨u, hcycle, hhost⟩ := exists_hostCycle hrst ht
  rw [← byteOffset_eq, ← hcycle]
  refine ⟨fun hrd => ?_, fun hwr hc => ?_, fun hwr haddr hb => ?_⟩
  · have hread : IsHostRead x := ⟨hrst, hrd, by simpa [hrd] using hreq⟩
    cases hhost.symm.trans (hostCycle_of_hostRead hread s u)
    exact List.mem_cons_self
  · have hrd : x.hRd = false := by simpa [hwr] using hreq
    rcases hostCycle_cases hhost with ⟨hstall, -⟩ | ⟨-, hread, -⟩ | ⟨-, -, -, -, haccept⟩ | ⟨-, -, -, rfl⟩
    · simp [hc] at hstall
    · simp [hrd] at hread
    · exact ((LaterInCycle.record _ _).trans (acceptWord_later haccept)).mem List.mem_cons_self
    · exact (registerWrite_later _ _ _ _).mem List.mem_cons_self
  · have hrd : x.hRd = false := by simpa [hwr] using hreq
    have hc : transferCompletes x s = true :=
      transferCompletes_iff.2 (by rw [hReady_of_commandWrite hrst hrd hwr haddr, hb]; rfl)
    rcases hostCycle_cases hhost with ⟨hstall, -⟩ | ⟨-, hread, -⟩ | ⟨-, -, -, -, haccept⟩ | ⟨-, -, hother, -⟩
    · simp [hc] at hstall
    · simp [hrd] at hread
    · exact (acceptWord_later haccept).mem List.mem_cons_self
    · exact absurd haddr hother

/-- Settles O53, by induction on the draws. -/
theorem runFollowsQueuedDraws : Obligations.RunFollowsQueuedDraws := run_eq_runCycles

end Sys2Proof.CycleProofs
end

section
/-!
The bus sequencer (40_led_driver.md R88 to R98): the ports of the transaction in flight, one cycle of the sequencer, and the run
of a whole bus command, put together from the run of one transaction.
-/

namespace Sys2Proof.Machine

/-! ### Payloads and ports (R87, R88, R90) -/

theorem laneMap_getElem? (buf : Vector Byte 18) (c : Fin 18) : (laneMap buf)[c.val]? = some (lut buf[c]) := by
  simp [laneMap]

@[simp] theorem laneMap_length (buf : Vector Byte 18) : (laneMap buf).length = 18 := by simp [laneMap]

theorem payload_length_le (p : Config.Params) (buf : Vector Byte 18) (f : TxnForm) :
    (f.payload p buf).length ≤ 18 := by
  cases f <;> simp [TxnForm.payload, pack3]

/-- Byte k of b_data is byte k of the payload, and 0 past it (R88). -/
theorem packPayload_byte (l : List Byte) {k : Nat} (hk : k < 18) :
    (packPayload l).extractLsb' (8 * k) 8 = l.getD k 0 := by
  induction l generalizing k with
  | nil => exact BitVec.extractLsb'_zero
  | cons b rest ih =>
    refine BitVec.eq_of_getLsbD_eq fun j hj => ?_
    simp only [packPayload, BitVec.getLsbD_extractLsb', BitVec.getLsbD_or, BitVec.getLsbD_shiftLeft, BitVec.zeroExtend,
      BitVec.getLsbD_setWidth, hj, decide_true, Bool.true_and]
    cases k with
    | zero => simp [hj, show j < 144 by omega]
    | succ k =>
      have hbyte := congrArg (fun v : Byte => v.getLsbD j) (ih (k := k) (by omega))
      simp only [BitVec.getLsbD_extractLsb', hj, decide_true, Bool.true_and] at hbyte
      rw [show 8 * (k + 1) + j - 8 = 8 * k + j by omega, hbyte, BitVec.getLsbD_of_ge b _ (by omega)]
      simp [show 8 * (k + 1) + j < 144 by omega, show ¬ 8 * (k + 1) + j < 8 by omega]

theorem outputs_bValid (p : Config.Params) (s : State) : (outputs p s).bValid = s.bValid := by
  unfold outputs
  split
  next h _ => exact h.symm
  next => rfl

theorem outputs_pins (p : Config.Params) (s : State) : (outputs p s).pins = pinLevels s := by
  unfold outputs
  split <;> rfl

theorem outputs_of_no_txn {s : State} (h : s.bValid = false) (p : Config.Params) :
    outputs p s = { bValid := false, bAddr := 0, bReg := 0, bLen := 0, bData := 0, pins := pinLevels s } := by
  simp [outputs, h]

theorem outputs_of_txn {s : State} {f : TxnForm} (h : s.bValid = true) (hf : currentTxn s = some f) (p : Config.Params) :
    outputs p s =
      { bValid := true, bAddr := p.busAddr, bReg := f.reg p, bLen := BitVec.ofNat 5 (f.payload p s.ulBuf).length
        bData := packPayload (f.payload p s.ulBuf), pins := pinLevels s } := by
  simp [outputs, h, hf]

/-! ### One cycle of the sequencer (R89) -/

/-- A cycle with nothing but the sequencer in it: the answer, if it comes, is taken by the transaction in flight. -/
theorem cycleWith_of_txn {p : Config.Params} {x : PortInputs} {s : State} {f : TxnForm} (hrst : x.rst = false)
    (hrd : x.hRd = false) (hwr : x.hWr = false) (hi : s.initDone = true) (hr : s.rstate = .idle) (hv : s.bValid = true)
    (hf : currentTxn s = some f) :
    cycleWith p x s = .next (if x.bDone then answerTxn p x.bOk f (sampleButtons x (beginCycle s))
      else sampleButtons x (beginCycle s)) := by
  have hv' : (sampleButtons x (beginCycle s)).bValid = true := hv
  have hf' : currentTxn (sampleButtons x (beginCycle s)) = some f := hf
  rw [cycleWith_of_no_request hrst hrd hwr, unitsCycle_of_not_ranging hi hr, busCycle, if_pos hv', hf']

theorem answerTxn_next {p : Config.Params} {f : TxnForm} {s : State} (h : s.seq.toNat + 1 < (curTxns s.cur).length) :
    answerTxn p true f s = { record (busEvent p f s.ulBuf true) s with seq := s.seq + 1 } := if_pos h

theorem answerTxn_last {p : Config.Params} {f : TxnForm} {s : State} (h : (curTxns s.cur).length ≤ s.seq.toNat + 1) :
    answerTxn p true f s = closeBus .ok (record (busEvent p f s.ulBuf true) s) := if_neg (Nat.not_lt.2 h)

/-! ### Runs that keep a property until they end -/

/-- The draws take s to t, and every state on the way, from s to the one before t, has the property P. -/
def RunsWhile (p : Config.Params) (P : State → Prop) (xs : List PortInputs) (s t : State) : Prop :=
  runCycles p xs s = .next t ∧ ∀ k, k < xs.length → ∃ u, runCycles p (xs.take k) s = .next u ∧ P u

namespace RunsWhile

variable {p : Config.Params} {P : State → Prop} {s t u : State} {xs ys : List PortInputs}

theorem nil (s : State) : RunsWhile p P [] s s := ⟨rfl, fun k hk => absurd hk (Nat.not_lt_zero k)⟩

theorem cons {x : PortInputs} (hP : P s) (h : cycleWith p x s = .next t) (hrun : RunsWhile p P xs t u) :
    RunsWhile p P (x :: xs) s u := by
  refine ⟨by rw [runCycles_cons, h, andThen_next, hrun.1], fun k hk => ?_⟩
  cases k with
  | zero => exact ⟨s, rfl, hP⟩
  | succ k =>
    obtain ⟨v, hv, hPv⟩ := hrun.2 k (by simpa using hk)
    exact ⟨v, by rw [List.take_succ_cons, runCycles_cons, h, andThen_next, hv], hPv⟩

theorem single {x : PortInputs} (hP : P s) (h : cycleWith p x s = .next t) : RunsWhile p P [x] s t :=
  cons hP h (nil t)

theorem append (h : RunsWhile p P xs s t) (h' : RunsWhile p P ys t u) : RunsWhile p P (xs ++ ys) s u := by
  refine ⟨by rw [runCycles_append, h.1, andThen_next, h'.1], fun k hk => ?_⟩
  rcases Nat.lt_or_ge k xs.length with hlt | hge
  · rw [List.take_append_of_le_length hlt.le]
    exact h.2 k hlt
  · obtain ⟨v, hv, hPv⟩ := h'.2 (k - xs.length) (by rw [List.length_append] at hk; omega)
    refine ⟨v, ?_, hPv⟩
    rw [List.take_append, List.take_of_length_le hge, runCycles_append, h.1, andThen_next, hv]

/-- After a first cycle, which need not start with the property, the same run seen from the state before it. -/
theorem after {x : PortInputs} (h : cycleWith p x s = .next t) (hrun : RunsWhile p P xs t u) :
    (∀ k, 0 < k → k < (x :: xs).length → ∃ v, runCycles p ((x :: xs).take k) s = .next v ∧ P v) ∧
      runCycles p (x :: xs) s = .next u := by
  refine ⟨fun k hpos hk => ?_, by rw [runCycles_cons, h, andThen_next, hrun.1]⟩
  cases k with
  | zero => exact absurd hpos (lt_irrefl 0)
  | succ k =>
    obtain ⟨v, hv, hPv⟩ := hrun.2 k (by simpa using hk)
    exact ⟨v, by rw [List.take_succ_cons, runCycles_cons, h, andThen_next, hv], hPv⟩

end RunsWhile

/-! ### A bus command at acceptance (R92 to R96, R129 to R131) -/

/-- LED_MASK after the acceptance of a command. -/
def maskAfter : Instr → ChannelMask → ChannelMask
  | .ledSetMask m, _ => m
  | _, old => old

/-- UL_BUF after the acceptance of a command. -/
def bufAfter : Instr → Vector Byte 18 → Vector Byte 18
  | .ulSet r g b, _ => replicateColour r g b
  | .ulClear, _ => zeroBuffer
  | _, old => old

/-- The state with the acceptance effects of a command on the buffers, and no others. -/
def loaded (i : Instr) (s : State) : State :=
  { s with ledMask := maskAfter i s.ledMask, ulBuf := bufAfter i s.ulBuf }

theorem accepted_of_bus {i : Instr} (hi : isBusCommand i = true) (s : State) :
    accepted i s = startBus (encode i) (loaded i s) := by
  cases i
  case btnLight | btnLightsClear | motorSet | motorForward | motorBackward | motorStop | range => cases hi
  all_goals rfl

theorem isBusCommand_of_lt {i : Instr} {k : Nat} (h : k < (txns i).length) : isBusCommand i = true := by
  rw [isBusCommand, Bool.not_eq_true', List.isEmpty_eq_false_iff]
  exact List.ne_nil_of_length_pos (by omega)

/-! ### A transaction in flight -/

/-- Transaction number k of the bus command i is in flight. -/
structure InFlight (i : Instr) (k : Nat) (s : State) : Prop where
  initDone : s.initDone = true
  busy : s.busy = true
  txn : s.bValid = true
  noRanging : s.rstate = .idle
  cur : s.cur = encode i
  seq : s.seq.toNat = k

/-- One transaction as the bus sees it: register byte, payload and result. -/
def sent (p : Config.Params) (buf : Vector Byte 18) (ok : Bool) (f : TxnForm) : Byte × List Byte × Bool :=
  (f.reg p, f.payload p buf, ok)

/-- Over n cycles of a bus command the bus has seen `log`, and the elements that no transaction touches are as they were. -/
structure Carries (n : Nat) (log : List (Byte × List Byte × Bool)) (s t : State) : Prop where
  initFailed : t.initFailed = s.initFailed
  rangeValid : t.rangeValid = s.rangeValid
  rangeUs : t.rangeUs = s.rangeUs
  rangeDist : t.rangeDist = s.rangeDist
  ulBuf : t.ulBuf = s.ulBuf
  ledMask : t.ledMask = s.ledMask
  cycle : t.cycle = s.cycle + n
  busLog : busLog t.trace = busLog s.trace ++ log

/-- The same while the command is in flight: LAST_ERR and BUS_FAULT are as they were, too. -/
structure Waits (n : Nat) (log : List (Byte × List Byte × Bool)) (s t : State) : Prop extends Carries n log s t where
  lastErr : t.lastErr = s.lastErr
  busFault : t.busFault = s.busFault

theorem Waits.refl (s : State) : Waits 0 [] s s := ⟨⟨rfl, rfl, rfl, rfl, rfl, rfl, rfl, by simp⟩, rfl, rfl⟩

theorem Carries.after_waits {n m : Nat} {l l' : List (Byte × List Byte × Bool)} {s t u : State} (h : Waits n l s t)
    (h' : Carries m l' t u) : Carries (n + m) (l ++ l') s u where
  initFailed := h'.initFailed.trans h.initFailed
  rangeValid := h'.rangeValid.trans h.rangeValid
  rangeUs := h'.rangeUs.trans h.rangeUs
  rangeDist := h'.rangeDist.trans h.rangeDist
  ulBuf := h'.ulBuf.trans h.ulBuf
  ledMask := h'.ledMask.trans h.ledMask
  cycle := by rw [h'.cycle, h.cycle, Nat.add_assoc]
  busLog := by rw [h'.busLog, h.busLog, List.append_assoc]

theorem Waits.trans {n m : Nat} {l l' : List (Byte × List Byte × Bool)} {s t u : State} (h : Waits n l s t)
    (h' : Waits m l' t u) : Waits (n + m) (l ++ l') s u :=
  ⟨.after_waits h h'.toCarries, h'.lastErr.trans h.lastErr, h'.busFault.trans h.busFault⟩

/-- The block is busy, and LAST_ERR is what it was at acceptance. -/
def BusyWith (e : ErrCode) (s : State) : Prop := s.busy = true ∧ s.lastErr = e

/-- Acceptance puts transaction 0 in flight, with the buffers already written. -/
theorem accept_busCommand {p : Config.Params} {s : State} {i : Instr} (hs : s.Idle) (hf : s.initFailed = false)
    (hi : isBusCommand i = true) :
    ∃ t, cycleWith p (cmdWrite (encode i)) s = .next t ∧ InFlight i 0 t ∧ Waits 1 [] (loaded i s) t := by
  have hready : (record (.hostWrite 0 (encode i)) (sampleButtons (cmdWrite (encode i)) (beginCycle s))).initFailed = false :=
    hf
  have hcycle := (cycleWith_of_idle_command (p := p) (x := cmdWrite (encode i)) hs rfl rfl rfl rfl).trans
    (acceptWord_of_decode (decode_encode i) hready)
  rw [accepted_of_bus hi] at hcycle
  refine ⟨_, hcycle, ?_, ⟨?_, by simp [loaded], by simp [loaded]⟩⟩
  · constructor <;> simp [loaded, hs.initDone, hs.noRanging]
  · constructor <;> simp [loaded, busLog]

section
variable {p : Config.Params} {i : Instr} {k : Nat} {f : TxnForm} {s : State}

theorem InFlight.currentTxn (h : InFlight i k s) : currentTxn s = (txns i)[k]? := by
  rw [Machine.currentTxn, h.cur, h.seq, curTxns_encode]

theorem InFlight.cycle_answer (h : InFlight i k s) (hk : (txns i)[k]? = some f) (ok : Bool) :
    cycleWith p (busAnswer ok) s = .next (answerTxn p ok f (sampleButtons (busAnswer ok) (beginCycle s))) :=
  cycleWith_of_txn (x := busAnswer ok) rfl rfl rfl h.initDone h.noRanging h.txn (h.currentTxn.trans hk)

/-- A quiet cycle leaves the transaction in flight. -/
theorem InFlight.quiet (h : InFlight i k s) (hk : (txns i)[k]? = some f) :
    ∃ t, cycleWith p PortInputs.quiet s = .next t ∧ InFlight i k t ∧ Waits 1 [] s t := by
  rw [cycleWith_of_txn rfl rfl rfl h.initDone h.noRanging h.txn (h.currentTxn.trans hk)]
  exact ⟨_, rfl, { h with }, ⟨⟨rfl, rfl, rfl, rfl, rfl, rfl, rfl, (List.append_nil _).symm⟩, rfl, rfl⟩⟩

/-- The answer OK to a transaction with others after it puts the next one in flight. -/
theorem InFlight.answer (h : InFlight i k s) (hk : (txns i)[k]? = some f) (hlt : k + 1 < (txns i).length) :
    ∃ t, cycleWith p (busAnswer true) s = .next t ∧ InFlight i (k + 1) t ∧ Waits 1 [sent p s.ulBuf true f] s t := by
  have hnext : s.seq.toNat + 1 < (curTxns s.cur).length := by rwa [h.seq, h.cur, curTxns_encode]
  have hlen := curTxns_length_le s.cur
  have hseq : (s.seq + 1).toNat = k + 1 := by
    rw [BitVec.toNat_add, ← h.seq]
    exact Nat.mod_eq_of_lt (by change s.seq.toNat + 1 < 4; omega)
  rw [h.cycle_answer hk]
  have hnext' := answerTxn_next (p := p) (f := f) (s := sampleButtons (busAnswer true) (beginCycle s)) hnext
  refine ⟨_, congrArg Host.Outcome.next hnext', { h with seq := hseq }, ?_⟩
  exact ⟨⟨rfl, rfl, rfl, rfl, rfl, rfl, rfl, rfl⟩, rfl, rfl⟩

/-- The answer to the last transaction, or a failure, ends the command. -/
structure Ended (ok : Bool) (t : State) : Prop extends t.Idle where
  cur : t.cur = 0
  seq : t.seq = 0
  lastErr : t.lastErr = if ok then .ok else .bus

theorem InFlight.finish (h : InFlight i k s) (hk : (txns i)[k]? = some f) {ok : Bool}
    (hlast : ok = true → k + 1 = (txns i).length) :
    ∃ t, cycleWith p (busAnswer ok) s = .next t ∧ Ended ok t ∧ (t.busFault = if ok then s.busFault else true) ∧
      Carries 1 [sent p s.ulBuf ok f] s t := by
  rw [h.cycle_answer hk]
  cases ok with
  | false =>
    refine ⟨_, rfl, ⟨⟨?_, rfl, rfl, ?_⟩, rfl, rfl, rfl⟩, rfl, ?_⟩
    · simpa using h.initDone
    · simpa using h.noRanging
    · constructor <;> simp [answerTxn, busLog, busEvent, sent]
  | true =>
    have hend : (curTxns s.cur).length ≤ s.seq.toNat + 1 := by
      rw [h.seq, h.cur, curTxns_encode, hlast rfl]
    have hend' := answerTxn_last (p := p) (f := f) (s := sampleButtons (busAnswer true) (beginCycle s)) hend
    refine ⟨_, congrArg Host.Outcome.next hend', ⟨⟨?_, rfl, rfl, ?_⟩, rfl, rfl, rfl⟩, by simp, ?_⟩
    · simpa using h.initDone
    · simpa using h.noRanging
    · constructor <;> simp [busLog, busEvent, sent]

/-! ### Runs of a transaction and of a command -/

/-- Any number of cycles without an answer. -/
theorem InFlight.run_quiet (h : InFlight i k s) (hk : (txns i)[k]? = some f) (n : Nat) :
    ∃ t, RunsWhile p (BusyWith s.lastErr) (List.replicate n PortInputs.quiet) s t ∧ InFlight i k t ∧ Waits n [] s t := by
  induction n with
  | zero => exact ⟨s, .nil s, h, .refl s⟩
  | succ n ih =>
    obtain ⟨t, hrun, ht, hw⟩ := ih
    obtain ⟨u, hu, hflight, hw'⟩ := ht.quiet (p := p) hk
    rw [List.replicate_succ']
    exact ⟨u, hrun.append (.single ⟨ht.busy, hw.lastErr⟩ hu), hflight, hw.trans hw'⟩

theorem InFlight.run_answer (h : InFlight i k s) (hlt : k + 1 < (txns i).length) (hk : (txns i)[k]? = some f) (n : Nat) :
    ∃ t, RunsWhile p (BusyWith s.lastErr) (answeredAfter true n) s t ∧ InFlight i (k + 1) t ∧
      Waits (n + 1) [sent p s.ulBuf true f] s t := by
  obtain ⟨t, hrun, ht, hw⟩ := h.run_quiet (p := p) hk n
  obtain ⟨u, hu, hflight, hw'⟩ := ht.answer (p := p) hk hlt
  rw [hw.ulBuf] at hw'
  exact ⟨u, hrun.append (.single ⟨ht.busy, hw.lastErr⟩ hu), hflight, hw.trans hw'⟩

theorem InFlight.run_finish (h : InFlight i k s) (hk : (txns i)[k]? = some f) {ok : Bool}
    (hlast : ok = true → k + 1 = (txns i).length) (n : Nat) :
    ∃ t, RunsWhile p (BusyWith s.lastErr) (answeredAfter ok n) s t ∧ Ended ok t ∧
      (t.busFault = if ok then s.busFault else true) ∧ Carries (n + 1) [sent p s.ulBuf ok f] s t := by
  obtain ⟨t, hrun, ht, hw⟩ := h.run_quiet (p := p) hk n
  obtain ⟨u, hu, hended, hfault, hc⟩ := ht.finish (p := p) hk hlast
  rw [hw.ulBuf] at hc
  rw [hw.busFault] at hfault
  exact ⟨u, hrun.append (.single ⟨ht.busy, hw.lastErr⟩ hu), hended, hfault, .after_waits hw hc⟩

/-- Transactions answered OK one after another, short of the last one of the command. -/
theorem InFlight.run_answers (waits : List Nat) {k : Nat} {s : State} (h : InFlight i k s)
    (hlt : k + waits.length < (txns i).length) :
    ∃ t, RunsWhile p (BusyWith s.lastErr) (answersOk waits) s t ∧ InFlight i (k + waits.length) t ∧
      Waits (waits.map (· + 1)).sum ((((txns i).drop k).take waits.length).map (sent p s.ulBuf true)) s t := by
  induction waits generalizing k s with
  | nil => exact ⟨s, .nil s, h, by simpa using Waits.refl s⟩
  | cons w rest ih =>
    rw [List.length_cons] at hlt
    have hk : k < (txns i).length := by omega
    obtain ⟨t, hrun, ht, hw⟩ := h.run_answer (p := p) (by omega) (List.getElem?_eq_getElem hk) w
    obtain ⟨u, hrun', hu, hw'⟩ := ih ht (by omega)
    rw [hw.lastErr] at hrun'
    rw [hw.ulBuf] at hw'
    refine ⟨u, hrun.append hrun', by rwa [show k + (w :: rest).length = k + 1 + rest.length by simp; omega], ?_⟩
    rw [List.drop_eq_getElem_cons hk]
    exact hw.trans hw'

end

/-- A bus command from its CMD write to its end: the transactions before the last answer were answered OK, and that answer is
the failure of one of them or the success of the last one. -/
theorem run_busCommand {p : Config.Params} {s : State} {i : Instr} {waits : List Nat} {f : TxnForm} (hs : s.Idle)
    (hf : s.initFailed = false) (hk : (txns i)[waits.length]? = some f) {ok : Bool}
    (hlast : ok = true → waits.length + 1 = (txns i).length) (n : Nat) :
    ∃ t u, cycleWith p (cmdWrite (encode i)) s = .next u ∧
      RunsWhile p (BusyWith s.lastErr) (answersOk waits ++ answeredAfter ok n) u t ∧ Ended ok t ∧
      (t.busFault = if ok then s.busFault else true) ∧
      Carries (1 + ((waits.map (· + 1)).sum + (n + 1)))
        (((txns i).take waits.length).map (sent p (bufAfter i s.ulBuf) true) ++ [sent p (bufAfter i s.ulBuf) ok f])
        (loaded i s) t := by
  have hlt : waits.length < (txns i).length := (List.getElem?_eq_some_iff.1 hk).1
  obtain ⟨u, hu, hflight, hw⟩ := accept_busCommand (p := p) hs hf (isBusCommand_of_lt hlt)
  obtain ⟨v, hrun, hv, hw'⟩ := hflight.run_answers (p := p) waits (by omega)
  rw [Nat.zero_add] at hv
  obtain ⟨t, hrun', hended, hfault, hc⟩ := hv.run_finish (p := p) hk hlast n
  have herr : u.lastErr = s.lastErr := hw.lastErr
  rw [hw'.lastErr, herr] at hrun'
  rw [herr] at hrun
  rw [hw'.busFault, hw.busFault] at hfault
  refine ⟨t, u, hu, hrun.append hrun', hended, hfault, ?_⟩
  have hall := Carries.after_waits hw (.after_waits hw' hc)
  rw [hw'.ulBuf, hw.ulBuf] at hall
  exact hall

/-- The run of a command whose every transaction is answered OK, after the waits of the list. -/
theorem run_busCommand_ok {p : Config.Params} {s : State} {i : Instr} {waits : List Nat} (hs : s.Idle)
    (hf : s.initFailed = false) (hi : isBusCommand i = true) (hlen : waits.length = (txns i).length) :
    ∃ t u, cycleWith p (cmdWrite (encode i)) s = .next u ∧ RunsWhile p (BusyWith s.lastErr) (answersOk waits) u t ∧
      Ended true t ∧ t.busFault = s.busFault ∧
      Carries (1 + (waits.map (· + 1)).sum) ((txns i).map (sent p (bufAfter i s.ulBuf) true)) (loaded i s) t := by
  rcases List.eq_nil_or_concat waits with rfl | ⟨init, w, rfl⟩
  · rw [isBusCommand, List.eq_nil_of_length_eq_zero hlen.symm] at hi
    cases hi
  rw [List.concat_eq_append, List.length_append, List.length_singleton] at hlen
  have hlt : init.length < (txns i).length := by omega
  obtain ⟨t, u, hu, hrun, hended, hfault, hc⟩ :=
    run_busCommand (p := p) hs hf (List.getElem?_eq_getElem hlt) (ok := true) (fun _ => hlen) w
  refine ⟨t, u, hu, by simpa [answersOk] using hrun, hended, hfault, ?_⟩
  have htake : (txns i).take init.length ++ [(txns i)[init.length]] = txns i := by
    rw [List.take_append_getElem, hlen, List.take_length]
  rw [← List.map_singleton, ← List.map_append, htake] at hc
  simpa using hc

/-- One UL_CLEAR, answered OK, from an idle block back to one (R130, R132). -/
theorem run_ulClear {p : Config.Params} {s : State} (n : Nat) (hs : s.Idle) (hf : s.initFailed = false) :
    ∃ t, runCycles p (cmdWrite 0x51000000 :: answeredAfter true n) s = .next t ∧ t.Idle ∧ t.initFailed = false ∧
      t.ulBuf = zeroBuffer ∧ t.lastErr = .ok ∧
      busLog t.trace = busLog s.trace ++ [(p.regEnableOutput, [p.enOff], true)] := by
  obtain ⟨t, u, hu, hrun, hended, -, hc⟩ := run_busCommand (p := p) (i := .ulClear) (waits := []) (f := .off) hs hf rfl
    (ok := true) (fun _ => rfl) n
  exact ⟨t, (hrun.after hu).2, hended.toIdle, hc.initFailed.trans hf, hc.ulBuf, hended.lastErr, hc.busLog⟩

end Sys2Proof.Machine

namespace Sys2Proof.BusProofs

open Sys2Proof.Machine

/-- Settles O39: the lists are the commands' own, and a list is empty for the seven commands that R138 leaves out. -/
theorem transactionsOfEachCommand : Obligations.TransactionsOfEachCommand := by
  intro p buf mask r g b
  refine ⟨laneMap buf, laneMap_length buf, laneMap_getElem? buf, rfl, rfl, rfl, rfl, rfl, rfl, rfl, rfl, fun i => ?_⟩
  cases i <;> simp [isBusCommand, txns]

/-- Settles O40: the ports in a cycle with a transaction, and without one. -/
theorem outputPortsCopyState : Obligations.OutputPortsCopyState := by
  intro p s
  have hpins := outputs_pins p s
  refine ⟨outputs_bValid p s, by rw [hpins]; rfl, by rw [hpins]; rfl, by rw [hpins]; rfl, by rw [hpins]; rfl,
    by rw [hpins]; rfl, by rw [hpins]; rfl, by rw [hpins]; rfl, fun hv => ?_, fun f hv hf => ?_⟩
  · rw [outputs_of_no_txn hv]
    exact ⟨rfl, rfl, rfl, rfl⟩
  · rw [outputs_of_txn hv hf]
    have hlen := payload_length_le p s.ulBuf f
    exact ⟨rfl, rfl, Nat.mod_eq_of_lt (by omega), fun k => packPayload_byte _ k.isLt⟩

/-- Settles O41: no answer, and the three answers of R89. -/
theorem busSequencerCycle : Obligations.BusSequencerCycle := by
  intro p x s f hrst hrd hwr hi hr hv hf s1 e
  have hcycle := cycleWith_of_txn (p := p) hrst hrd hwr hi hr hv hf
  refine ⟨fun hd => ?_, fun hd hok => ?_, fun hd hok hlt => ?_, fun hd hok hle => ?_⟩
  · rw [hcycle, hd]
    rfl
  · rw [hcycle, hd, hok]
    rfl
  · rw [hcycle, hd, hok, if_pos rfl, answerTxn_next (by exact hlt)]
    rfl
  · rw [hcycle, hd, hok, if_pos rfl, answerTxn_last (by exact hle)]
    rfl

/-- Settles O43: the run of a command with every answer OK. -/
theorem busCommandCompletes : Obligations.BusCommandCompletes := by
  intro p s i waits hs hf hi hlen draws
  obtain ⟨t, u, hu, hrun, hended, hfault, hc⟩ := run_busCommand_ok (p := p) hs hf hi hlen
  obtain ⟨hbusy, hrun⟩ := hrun.after hu
  have hbuf : t.ulBuf = bufAfter i s.ulBuf := hc.ulBuf
  refine ⟨hbusy, t, hrun, hended.toIdle, hended.cur, hended.seq, hended.lastErr, hfault, ?_, hc.rangeValid, hc.rangeUs,
    hc.rangeDist, ?_⟩
  · rw [hc.cycle, Nat.add_assoc]
    rfl
  · rw [hbuf]
    exact hc.busLog

/-- Settles O44: the run of a command that a failure ends. -/
theorem busCommandFails : Obligations.BusCommandFails := by
  intro p s i waits lastWait hs hf hlt
  obtain ⟨t, u, hu, hrun, hended, hfault, hc⟩ := run_busCommand (p := p) hs hf (List.getElem?_eq_getElem hlt) (ok := false)
    (fun h => by cases h) lastWait
  obtain ⟨-, hrun⟩ := hrun.after hu
  refine ⟨t, accepted i s, exec_of_ready hf i, hrun, hended.toIdle, hended.lastErr, hfault, ?_⟩
  rw [accepted_of_bus (isBusCommand_of_lt hlt), List.drop_eq_getElem_cons hlt, List.append_assoc]
  exact ⟨hc.ulBuf, hc.ledMask, hc.busLog⟩

/-- Settles O45: what a command sends is a function of the buffer that it finds. -/
theorem repeatedOutputSendsSameBytes : Obligations.RepeatedOutputSendsSameBytes := by
  intro p s s' i waits waits' hs hf hs' hf' hbuf hmem hlen hlen'
  have hi : isBusCommand i = true := by
    rcases List.mem_pair.1 hmem with rfl | rfl <;> rfl
  obtain ⟨t, u, hu, hrun, -, -, hc⟩ := run_busCommand_ok (p := p) hs hf hi hlen
  obtain ⟨t', u', hu', hrun', -, -, hc'⟩ := run_busCommand_ok (p := p) hs' hf' hi hlen'
  rw [← hbuf] at hc'
  exact ⟨t, t', (hrun.after hu).2, (hrun'.after hu').2, _, hc.busLog, hc'.busLog⟩

/-- Settles O46: the first UL_CLEAR leaves an idle block, in which the second one runs alike. -/
theorem underlightClearTwice : Obligations.UnderlightClearTwice := by
  intro p s a b hs hf
  obtain ⟨t, hrun, ht, htf, htbuf, hterr, htlog⟩ := run_ulClear a hs hf
  obtain ⟨u, hrun', -, -, hubuf, huerr, hulog⟩ := run_ulClear b ht htf
  refine ⟨t, u, hrun, hrun', fun c => ?_, hterr, huerr, htlog, hulog⟩
  rw [htbuf, hubuf]
  exact ⟨Vector.getElem_replicate c.isLt, Vector.getElem_replicate c.isLt⟩

end Sys2Proof.BusProofs
end

section
/-!
The ranging timer (43_ranging.md R117 to R127): one cycle of a measurement whatever the host does, the trigger pulse cycle by
cycle, and a measurement without a timeout that waits for an edge of the echo line.
-/

namespace Sys2Proof.Machine

/-! ### One cycle of a measurement (R117, R119) -/

/-- BUS_FAULT after the host port of a cycle in which no transaction can fail (R50): a write to STATUS with bit 3 = 1 clears
it. -/
def faultAfterHost (x : PortInputs) (fault : Bool) : Bool :=
  if x.hWr = true ∧ x.hAddr = 1 ∧ x.hWdata.getLsbD 3 = true then false else fault

/-- A busy block with no transaction in flight accepts no word, so that the host port touches BUS_FAULT and the history only. -/
theorem hostCycle_of_no_txn {x : PortInputs} {s0 : State} (hq : requestLegal x = true) (hrst : x.rst = false)
    (hbusy : s0.busy = true) (hv : s0.bValid = false) (s : State) :
    ∃ tr, hostCycle x s0 s = .next { s with busFault := faultAfterHost x s.busFault, trace := tr } := by
  have hreq := requestLegal_iff.1 hq
  cases hwr : x.hWr with
  | false =>
    have hkeep : faultAfterHost x s.busFault = s.busFault := if_neg (by simp [hwr])
    rw [hkeep]
    cases hrd : x.hRd with
    | false => exact ⟨s.trace, hostCycle_of_stalled (transferCompletes_of_no_request hrd hwr s0) s⟩
    | true => exact ⟨_, hostCycle_of_hostRead ⟨hrst, hrd, hwr⟩ s0 s⟩
  | true =>
    have hrd : x.hRd = false := by simpa [hwr] using hreq
    by_cases hcmd : x.hAddr = 0
    · have hkeep : faultAfterHost x s.busFault = s.busFault := if_neg (by simp [hcmd])
      have hstall : transferCompletes x s0 = false := by
        rw [transferCompletes, hReady_of_commandWrite hrst hrd hwr hcmd, hbusy]; rfl
      rw [hkeep]
      exact ⟨s.trace, hostCycle_of_stalled hstall s⟩
    · rw [hostCycle_of_registerWrite ⟨hrst, hrd, hwr, hcmd⟩, txnFails_of_no_txn hv]
      by_cases hstatus : x.hAddr = 1
      · refine ⟨(s.cycle, .hostWrite (byteOffset x.hAddr) x.hWdata) :: s.trace, ?_⟩
        rw [hstatus, registerWrite_status]
        simp only [faultAfterHost, hwr, hstatus, true_and]
        rfl
      · have hkeep : faultAfterHost x s.busFault = s.busFault := if_neg fun ⟨_, ha, _⟩ => hstatus ha
        rw [registerWrite_of_ne_status hstatus, hkeep]
        exact ⟨_, rfl⟩

/-- In a measurement the cycle is the ranging timer's, beside the button latch and the write-1-to-clear of BUS_FAULT. -/
theorem cycleWith_of_measuring {p : Config.Params} {x : PortInputs} {s : State} (hq : requestLegal x = true)
    (hrst : x.rst = false) (hm : s.Measuring) :
    ∃ tr, cycleWith p x s = .next
      { rangeCycle p x (sampleButtons x (beginCycle s)) with
        busFault := faultAfterHost x s.busFault, trace := tr } := by
  rw [cycleWith_of_legal hq hrst, unitsCycle_of_no_txn hm.initDone hm.noTxn, andThen_next]
  obtain ⟨tr, h⟩ := hostCycle_of_no_txn hq hrst hm.busy hm.noTxn (rangeCycle p x (sampleButtons x (beginCycle s)))
  have hfault : (rangeCycle p x (sampleButtons x (beginCycle s))).busFault = s.busFault := by simp
  rw [hfault] at h
  exact ⟨tr, h⟩

theorem isTick_iff {p : Config.Params} {s : State} : isTick p s = true ↔ s.presc = p.clkPerUsPred := beq_iff_eq

theorem rangeCycle_of_no_tick {p : Config.Params} {s : State} (hr : s.rstate ≠ .idle) (ht : s.presc ≠ p.clkPerUsPred)
    (x : PortInputs) : rangeCycle p x s = { s with presc := s.presc + 1 } := by
  have ht' : isTick p s = false := beq_eq_false_iff_ne.2 ht
  simp [rangeCycle, hr, ht']

/-- Short of a tick PRESC counts up within its range. -/
theorem presc_succ {p : Config.Params} {s : State} (h : s.presc.toNat ≤ p.clkPerUsPred.toNat)
    (ht : s.presc ≠ p.clkPerUsPred) :
    (s.presc + 1).toNat ≤ p.clkPerUsPred.toNat ∧ (s.presc + 1).toNat = s.presc.toNat + 1 := by
  have hne : s.presc.toNat ≠ p.clkPerUsPred.toNat := fun heq => ht (BitVec.eq_of_toNat_eq heq)
  have hlt := p.clkPerUsPred.isLt
  refine ⟨presc_succ_le h (beq_eq_false_iff_ne.2 ht), ?_⟩
  rw [BitVec.toNat_add]
  exact Nat.mod_eq_of_lt (by change s.presc.toNat + 1 < 2 ^ 32; omega)

theorem rangeCycle_of_tick {p : Config.Params} {s : State} (hr : s.rstate ≠ .idle) (ht : s.presc = p.clkPerUsPred)
    (x : PortInputs) : rangeCycle p x s = rangeTick p x.echo { s with presc := 0 } := by
  simp [rangeCycle, hr, isTick_iff.2 ht]

theorem timeoutStep_presc {p : Config.Params} {s : State} (h : s.presc = 0) : (timeoutStep p s).presc = 0 := by
  rcases timeoutStep_cases p s with ⟨-, ht⟩ | ⟨-, -, ht⟩ | ⟨-, -, ht⟩ <;> rw [ht]
  · exact h
  · rfl
  · exact h

/-- A tick takes PRESC back to 0, whatever the state it finds. -/
theorem rangeTick_presc {p : Config.Params} {s : State} (h : s.presc = 0) (e : Bool) : (rangeTick p e s).presc = 0 := by
  unfold rangeTick
  split
  · exact h
  · unfold tickTriggered; split <;> exact h
  · unfold tickAwaitStart; exact timeoutStep_presc (by split <;> exact h)
  · unfold tickAwaitEnd
    split
    · exact timeoutStep_presc h
    · rfl

theorem accepted_presc {s : State} (h : s.presc = 0) (i : Instr) : (accepted i s).presc = 0 := by
  cases hi : i.wellFormed with
  | false => rw [accepted_of_illFormed hi]; exact h
  | true =>
    cases i
    case btnLight btn v => rw [accepted_btnLight hi]; exact h
    case motorSet m v => rw [accepted_motorSet ((speedInRange_eq_legal v).trans hi)]; simpa using h
    case range => rfl
    all_goals simpa [accepted, setBothMotors] using h

/-- With no measurement in flight PRESC is 0 and stays 0: the units leave it, and RANGE restarts it. -/
theorem cycleWith_presc_of_idle {p : Config.Params} {x : PortInputs} {s t : State} (hrst : x.rst = false)
    (hr : s.rstate = .idle) (h0 : s.presc = 0) (h : cycleWith p x s = .next t) : t.presc = 0 := by
  obtain ⟨-, ⟨hr', -⟩ | ⟨-, s1, hbus, hhost⟩⟩ := cycleWith_cases h
  · simp [hrst] at hr'
  have f := busCycle_frame hbus
  have hidle : (initialise x s1).rstate = .idle := by simpa [f.rstate] using hr
  have hunits : (rangeCycle p x (initialise x s1)).presc = 0 := by
    rw [rangeCycle_of_idle hidle]
    simpa [f.presc] using h0
  rcases hostCycle_effect hhost with ⟨v, tr, rfl⟩ | ⟨-, haccept⟩
  · exact hunits
  · rcases acceptWord_effect haccept with ⟨code, rfl⟩ | ⟨i, -, rfl⟩
    · simpa only [raiseErr_presc, record_presc] using hunits
    · exact accepted_presc (by simpa only [record_presc] using hunits) i

/-! ### The acceptance of RANGE (R118) -/

/-- The measurement that RANGE starts: the trigger is high, the counters are 0, and the previous result stays. -/
structure Started (s t : State) : Prop extends t.Measuring where
  triggered : t.rstate = .triggered
  presc : t.presc = 0
  tcount : t.tcount = 0
  wcount : t.wcount = 0
  rangeValid : t.rangeValid = false
  rangeUs : t.rangeUs = s.rangeUs
  rangeDist : t.rangeDist = s.rangeDist
  cycle : t.cycle = s.cycle + 1

theorem accept_range {p : Config.Params} {s : State} (hs : s.Idle) (hf : s.initFailed = false) :
    ∃ t, cycleWith p (cmdWrite 0x40000000) s = .next t ∧ Started s t := by
  have hready : (record (.hostWrite 0 0x40000000) (sampleButtons (cmdWrite 0x40000000) (beginCycle s))).initFailed = false :=
    hf
  have hcycle := (cycleWith_of_idle_command (p := p) (x := cmdWrite 0x40000000) hs rfl rfl rfl rfl).trans
    (acceptWord_of_decode (i := .range) (decode_encode .range) hready)
  refine ⟨_, hcycle, ⟨⟨?_, ?_, ?_, ?_, ?_, ?_, ?_⟩, ?_, ?_, ?_, ?_, ?_, ?_, ?_, ?_⟩⟩
  all_goals simp [accepted, hs.initDone, hs.noTxn, hf]

/-! ### The trigger pulse (R119) -/

/-- j cycles of the trigger pulse have passed. -/
structure Pulse (p : Config.Params) (j : Nat) (s : State) : Prop extends s.Measuring where
  triggered : s.rstate = .triggered
  presc : s.presc.toNat ≤ p.clkPerUsPred.toNat
  tcount : s.tcount.toNat ≤ 9
  elapsed : s.tcount.toNat * p.clkPerUs + s.presc.toNat = j

theorem Started.pulse {p : Config.Params} {s t : State} (h : Started s t) : Pulse p 0 t :=
  { h with presc := by simp [h.presc], tcount := by simp [h.tcount], elapsed := by simp [h.presc, h.tcount] }

theorem rangeTick_of_triggered {p : Config.Params} {s : State} (h : s.rstate = .triggered) (e : Bool) :
    rangeTick p e s = tickTriggered s := by
  simp [rangeTick, h]

theorem tickTriggered_last {s : State} (h : s.tcount.toNat = 9) :
    tickTriggered s = { s with trig := false, tcount := 0, rstate := .awaitStart } :=
  if_pos (BitVec.eq_of_toNat_eq h)

theorem tickTriggered_next {s : State} (h : s.tcount.toNat < 9) :
    tickTriggered s = { s with tcount := s.tcount + 1 } ∧ (s.tcount + 1).toNat = s.tcount.toNat + 1 := by
  refine ⟨if_neg fun h9 => ?_, ?_⟩
  · simp [h9] at h
  · rw [BitVec.toNat_add]
    exact Nat.mod_eq_of_lt (by change s.tcount.toNat + 1 < 16; omega)

/-- One more cycle of the pulse, or its last one: PRESC counts up, or TCOUNT does, or AWAIT_START begins. -/
theorem Pulse.rangeCycle {p : Config.Params} {j : Nat} {s : State} (h : Pulse p j s) (x : PortInputs) :
    (j + 1 < 10 * p.clkPerUs ∧ Pulse p (j + 1) (rangeCycle p x s)) ∨
      (j + 1 = 10 * p.clkPerUs ∧ (rangeCycle p x s).Measuring ∧ (rangeCycle p x s).rstate = .awaitStart) := by
  obtain ⟨hm, hr, hpresc, htc, hel⟩ := h
  have hclk : p.clkPerUs = p.clkPerUsPred.toNat + 1 := rfl
  have hne : s.rstate ≠ .idle := by rw [hr]; decide
  by_cases ht : s.presc = p.clkPerUsPred
  · rw [rangeCycle_of_tick hne ht, rangeTick_of_triggered (s := { s with presc := 0 }) hr]
    rw [ht] at hel
    rcases Nat.lt_or_ge s.tcount.toNat 9 with hlt | hge
    · obtain ⟨htick, hsucc⟩ := tickTriggered_next (s := { s with presc := 0 }) hlt
      replace hsucc : (s.tcount + 1).toNat = s.tcount.toNat + 1 := hsucc
      have hmul : (s.tcount.toNat + 1) * p.clkPerUs = s.tcount.toNat * p.clkPerUs + p.clkPerUs := Nat.succ_mul _ _
      have hle : (s.tcount.toNat + 1) * p.clkPerUs ≤ 9 * p.clkPerUs := Nat.mul_le_mul_right _ (by omega)
      rw [htick]
      refine .inl ⟨by omega, ⟨{ hm with }, hr, Nat.zero_le _, ?_, ?_⟩⟩
      · change (s.tcount + 1).toNat ≤ 9
        omega
      · change (s.tcount + 1).toNat * p.clkPerUs + 0 = j + 1
        rw [hsucc]
        omega
    · have h9 : s.tcount.toNat = 9 := by omega
      rw [tickTriggered_last (s := { s with presc := 0 }) h9]
      rw [h9] at hel
      exact .inr ⟨by omega, { hm with ranging := by simp, trigger := by simp }, rfl⟩
  · obtain ⟨hle, hsucc⟩ := presc_succ hpresc ht
    have hmul : s.tcount.toNat * p.clkPerUs ≤ 9 * p.clkPerUs := Nat.mul_le_mul_right _ htc
    rw [rangeCycle_of_no_tick hne ht]
    refine .inl ⟨by omega, ⟨{ hm with }, hr, hle, htc, ?_⟩⟩
    change s.tcount.toNat * p.clkPerUs + (s.presc + 1).toNat = j + 1
    omega

/-- The same for a whole cycle, whatever the host, the echo and the buttons do. -/
theorem Pulse.cycle {p : Config.Params} {x : PortInputs} {j : Nat} {s : State} (h : Pulse p j s)
    (hq : requestLegal x = true) (hrst : x.rst = false) :
    ∃ t, cycleWith p x s = .next t ∧
      ((j + 1 < 10 * p.clkPerUs ∧ Pulse p (j + 1) t) ∨
        (j + 1 = 10 * p.clkPerUs ∧ t.Measuring ∧ t.rstate = .awaitStart)) := by
  obtain ⟨tr, hcycle⟩ := cycleWith_of_measuring (p := p) hq hrst h.toMeasuring
  have hbegun : Pulse p j (sampleButtons x (beginCycle s)) := { h with }
  refine ⟨_, hcycle, ?_⟩
  rcases hbegun.rangeCycle x with ⟨hlt, hpulse⟩ | ⟨heq, hm, hr⟩
  · exact .inl ⟨hlt, { hpulse with }⟩
  · exact .inr ⟨heq, { hm with }, hr⟩

/-- The pulse over several cycles, up to its end. -/
theorem Pulse.run {p : Config.Params} (xs : List PortInputs) {j : Nat} {s : State} (h : Pulse p j s)
    (hxs : ∀ x ∈ xs, x.rst = false ∧ requestLegal x = true) (hlen : j + xs.length ≤ 10 * p.clkPerUs)
    (hj : j < 10 * p.clkPerUs) :
    ∃ t, runCycles p xs s = .next t ∧ ((j + xs.length < 10 * p.clkPerUs ∧ Pulse p (j + xs.length) t) ∨
      (j + xs.length = 10 * p.clkPerUs ∧ t.Measuring ∧ t.rstate = .awaitStart)) := by
  induction xs generalizing j s with
  | nil => exact ⟨s, rfl, .inl ⟨hj, h⟩⟩
  | cons x xs ih =>
    obtain ⟨⟨hrst, hq⟩, hrest⟩ := List.forall_mem_cons.1 hxs
    rw [List.length_cons] at hlen ⊢
    obtain ⟨t, ht, ⟨hlt, hpulse⟩ | ⟨heq, hm, hr⟩⟩ := h.cycle hq hrst
    · obtain ⟨u, hu, hend⟩ := ih hpulse hrest (by omega) hlt
      rw [show j + 1 + xs.length = j + (xs.length + 1) by omega] at hend
      exact ⟨u, by rw [runCycles_cons, ht, andThen_next, hu], hend⟩
    · have hnil : xs = [] := List.eq_nil_of_length_eq_zero (by omega)
      rw [hnil]
      exact ⟨t, by rw [runCycles_cons, ht, andThen_next, runCycles_nil], .inr ⟨heq, hm, hr⟩⟩

/-! ### A measurement that never ends (R123) -/

/-- What a measurement without a timeout keeps while it waits. -/
structure Held (s t : State) : Prop where
  rstate : t.rstate = s.rstate
  pins : pinLevels t = pinLevels s
  ulBuf : t.ulBuf = s.ulBuf
  ledMask : t.ledMask = s.ledMask

/-- Without a timeout and without the edge it waits for, the ranging timer keeps its state. -/
theorem rangeCycle_rstate_of_no_edge {p : Config.Params} {x : PortInputs} {s : State} (h0 : p.echoTimeoutUs = 0)
    (hr : s.rstate = (if x.echo then .awaitEnd else .awaitStart)) : (rangeCycle p x s).rstate = s.rstate := by
  have hstep (u : State) : timeoutStep p u = u := if_pos h0
  have hne : s.rstate ≠ .idle := by rw [hr]; split <;> decide
  by_cases ht : s.presc = p.clkPerUsPred
  · rw [rangeCycle_of_tick hne ht]
    cases he : x.echo with
    | false =>
      have hr' : s.rstate = .awaitStart := by simpa [he] using hr
      simp [rangeTick, hr', tickAwaitStart, hstep]
    | true =>
      have hr' : s.rstate = .awaitEnd := by simpa [he] using hr
      simp [rangeTick, hr', tickAwaitEnd, hstep]
  · rw [rangeCycle_of_no_tick hne ht]

/-- A busy block keeps its outputs and buffers; the trigger line follows RSTATE (R42 (e)). -/
theorem held_of_rstate {p : Config.Params} {x : PortInputs} {s t : State} (hrst : x.rst = false) (hs : s.Measuring)
    (ht : t.Measuring) (hcycle : cycleWith p x s = .next t) (hr : t.rstate = s.rstate) : Held s t := by
  rcases cycleWith_effect hrst hcycle with f | ⟨ha, -⟩
  · have htrig : t.trig = s.trig := Bool.eq_iff_iff.2 (by rw [ht.trigger, hs.trigger, hr])
    exact ⟨hr, by simp [pinLevels, f.motorEn, f.dutyLA, f.dutyLB, f.dutyRA, f.dutyRB, f.light, htrig], f.ulBuf, f.ledMask⟩
  · have hb := ha.idle
    rw [hs.busy] at hb
    cases hb

theorem held_run {p : Config.Params} (h0 : p.echoTimeoutUs = 0) {e : Bool} (xs : List PortInputs) {s : State}
    (hinv : s.Inv p) (hr : s.rstate = (if e then .awaitEnd else .awaitStart))
    (hxs : ∀ x ∈ xs, x.rst = false ∧ requestLegal x = true ∧ x.echo = e) :
    ∃ t, runCycles p xs s = .next t ∧ t.Measuring ∧ Held s t := by
  have hne : s.rstate ≠ .idle := by rw [hr]; split <;> decide
  have hm := hinv.measuring hne
  induction xs generalizing s with
  | nil => exact ⟨s, rfl, hm, rfl, rfl, rfl, rfl⟩
  | cons x xs ih =>
    obtain ⟨⟨hrst, hq, rfl⟩, hrest⟩ := List.forall_mem_cons.1 hxs
    obtain ⟨tr, hcycle⟩ := cycleWith_of_measuring (p := p) hq hrst hm
    have hstay : (rangeCycle p x (sampleButtons x (beginCycle s))).rstate = s.rstate :=
      rangeCycle_rstate_of_no_edge (s := sampleButtons x (beginCycle s)) h0 hr
    have hinv' := inv_cycleWith hinv hcycle
    have hm' := hinv'.measuring (hstay.trans_ne hne)
    have hheld := held_of_rstate hrst hm hm' hcycle hstay
    obtain ⟨t, ht, htm, hheld'⟩ := ih hinv' (hstay.trans hr) hrest (hstay.trans_ne hne) hm'
    refine ⟨t, by rw [runCycles_cons, hcycle, andThen_next, ht], htm, ?_⟩
    exact ⟨hheld'.rstate.trans hheld.rstate, hheld'.pins.trans hheld.pins, hheld'.ulBuf.trans hheld.ulBuf,
      hheld'.ledMask.trans hheld.ledMask⟩

end Sys2Proof.Machine

namespace Sys2Proof.TimerProofs

open Sys2Proof.Machine

/-- Settles O54: in IDLE PRESC rests at 0, and in a measurement the cycle is the ranging timer's. -/
theorem prescalerCountsCycles : Obligations.PrescalerCountsCycles := by
  intro p x s t hinv hrst ht
  have hq := (cycleWith_cases ht).1
  refine ⟨fun hr => ?_, fun hr => ?_, fun hr hne => ?_⟩
  · obtain ⟨tr, hcycle⟩ := cycleWith_of_measuring (p := p) hq hrst (hinv.measuring hr)
    cases ht.symm.trans hcycle
    have hr' : (sampleButtons x (beginCycle s)).rstate ≠ .idle := hr
    split_ifs with htick
    · rw [rangeCycle_of_tick hr' htick]
      exact rangeTick_presc rfl x.echo
    · rw [rangeCycle_of_no_tick hr' htick]
      rfl
  · have h0 := hinv.legal.prescIdle hr
    rw [h0, cycleWith_presc_of_idle hrst hr h0 ht]
  · obtain ⟨tr, hcycle⟩ := cycleWith_of_measuring (p := p) hq hrst (hinv.measuring hr)
    cases ht.symm.trans hcycle
    rw [rangeCycle_of_no_tick (s := sampleButtons x (beginCycle s)) hr hne]
    rfl

/-- Settles O55: cycle by cycle, TCOUNT x P_CLK_PER_US + PRESC counts the pulse. -/
theorem triggerPulseIsTenMicroseconds : Obligations.TriggerPulseIsTenMicroseconds := by
  intro p s xs hs hf hxs hlen
  have hclk : 0 < p.clkPerUs := Nat.succ_pos _
  obtain ⟨u, hu, hstart⟩ := accept_range (p := p) hs hf
  obtain ⟨t, ht, hend⟩ := hstart.pulse.run (p := p) xs hxs (by omega) (by omega)
  rw [Nat.zero_add] at hend
  refine ⟨t, by rw [runCycles_cons, hu, andThen_next, ht], ?_⟩
  rcases hend with ⟨hlt, hpulse⟩ | ⟨heq, hm, hr⟩
  · exact ⟨hpulse.busy, fun _ => ⟨hpulse.trigger.2 hpulse.triggered, hpulse.triggered⟩, fun h => by omega⟩
  · exact ⟨hm.busy, fun h => by omega, fun _ => ⟨hm.noTrig (by rw [hr]; decide), hr⟩⟩

/-- Settles O58, by induction on the cycles. -/
theorem rangeWithoutEchoHangs : Obligations.RangeWithoutEchoHangs := by
  intro p s xs e hinv h0 hr hxs
  have hm := hinv.measuring (by rw [hr]; split <;> decide)
  obtain ⟨t, ht, htm, hheld⟩ := held_run h0 xs hinv hr hxs
  exact ⟨t, ht, hheld.rstate, htm.busy, htm.cur.trans hm.cur.symm, hheld.pins, hheld.ulBuf, hheld.ledMask⟩

end Sys2Proof.TimerProofs
end

section
/-!
A whole measurement (43_ranging.md R117 to R125, 70_reset_and_hazards.md R170), microsecond by microsecond: P_CLK_PER_US quiet
cycles with the echo line at one level are one tick, the ticks count the trigger pulse, the wait and the echo, and the
measurement ends at the first low tick after a high one or at the timeout.
-/

namespace Sys2Proof.Machine

/-- The inputs of a cycle in which only the echo line may be high. -/
abbrev echoAt (e : Bool) : PortInputs := { PortInputs.quiet with echo := e }

/-- The state n cycles on, when only PRESC, the button latch and the model's own fields have moved. -/
def State.later (s : State) (n : Nat) (presc : Word) (b : BitVec 4) (q : List PortInputs) (tr : List (Nat × Event)) : State :=
  { s with presc := presc, btnLatch := b, inputs := q, cycle := s.cycle + n, trace := tr }

/-- A measurement in flight whose previous result still stands. -/
structure Pending (us dist : Word) (s : State) : Prop where
  initDone : s.initDone = true
  busy : s.busy = true
  noTxn : s.bValid = false
  noResult : s.rangeValid = false
  rangeUs : s.rangeUs = us
  rangeDist : s.rangeDist = dist

/-- The block is busy and shows the previous result. -/
def BusyKeeping (us dist : Word) (s : State) : Prop := s.busy = true ∧ s.rangeUs = us ∧ s.rangeDist = dist

theorem Pending.keeping {us dist : Word} {s : State} (h : Pending us dist s) : BusyKeeping us dist s :=
  ⟨h.busy, h.rangeUs, h.rangeDist⟩

theorem Pending.later {us dist : Word} {s : State} (h : Pending us dist s) (n : Nat) (presc : Word) (b : BitVec 4)
    (q : List PortInputs) (tr : List (Nat × Event)) : Pending us dist (s.later n presc b q tr) := { h with }

/-! ### One microsecond (R117) -/

/-- With a quiet host the cycle of a measurement is the ranging timer's. -/
theorem cycleWith_echoAt {p : Config.Params} {s : State} (hi : s.initDone = true) (hv : s.bValid = false) (e : Bool) :
    cycleWith p (echoAt e) s = .next (rangeCycle p (echoAt e) (sampleButtons (echoAt e) (beginCycle s))) :=
  (cycleWith_of_no_request (x := echoAt e) rfl rfl rfl).trans (unitsCycle_of_no_txn hi hv)

section
variable {p : Config.Params} {us dist : Word} {s : State}

/-- Cycles short of the tick only count PRESC. -/
theorem Pending.run_no_tick (h : Pending us dist s) (hr : s.rstate ≠ .idle) (h0 : s.presc = 0) (e : Bool) {n : Nat}
    (hn : n ≤ p.clkPerUsPred.toNat) :
    ∃ b q tr, RunsWhile p (BusyKeeping us dist) (List.replicate n (echoAt e)) s
      (s.later n (BitVec.ofNat 32 n) b q tr) := by
  induction n with
  | zero =>
    have hself : s.later 0 (BitVec.ofNat 32 0) s.btnLatch s.inputs s.trace = s := by
      rw [State.later, ← show s.presc = BitVec.ofNat 32 0 from h0]
      rfl
    exact ⟨s.btnLatch, s.inputs, s.trace, hself.symm ▸ .nil s⟩
  | succ n ih =>
    obtain ⟨b, q, tr, hrun⟩ := ih (by omega)
    have hp := h.later n (BitVec.ofNat 32 n) b q tr
    have hne : BitVec.ofNat 32 n ≠ p.clkPerUsPred := by
      rintro heq
      have hlt := p.clkPerUsPred.isLt
      rw [← heq, BitVec.toNat_ofNat, Nat.mod_eq_of_lt (by omega)] at hn
      omega
    have hcycle := cycleWith_echoAt (p := p) hp.initDone hp.noTxn e
    rw [rangeCycle_of_no_tick (by exact hr) (by exact hne)] at hcycle
    rw [List.replicate_succ', ← BitVec.ofNat_add_ofNat]
    exact ⟨_, _, _, hrun.append (.single hp.keeping hcycle)⟩

/-- A microsecond with the echo line at the level e is one tick that samples e. -/
theorem Pending.run_microsecond (h : Pending us dist s) (hr : s.rstate ≠ .idle) (h0 : s.presc = 0) (e : Bool) :
    ∃ b q tr, RunsWhile p (BusyKeeping us dist) (echoLevel p e) s (rangeTick p e (s.later p.clkPerUs 0 b q tr)) := by
  obtain ⟨b, q, tr, hrun⟩ := h.run_no_tick (p := p) hr h0 e le_rfl
  have hp := h.later p.clkPerUsPred.toNat (BitVec.ofNat 32 p.clkPerUsPred.toNat) b q tr
  have hcycle := cycleWith_echoAt (p := p) hp.initDone hp.noTxn e
  rw [rangeCycle_of_tick (by exact hr) (by exact (BitVec.ofNat_toNat 32 _).trans (BitVec.setWidth_eq _))] at hcycle
  rw [echoLevel, Config.Params.clkPerUs, List.replicate_succ']
  exact ⟨_, _, _, hrun.append (.single hp.keeping hcycle)⟩

/-! ### The ticks of the trigger pulse (R119) -/

/-- In cycle c, j ticks of the trigger pulse have passed and the last one just now. -/
structure Triggering (us dist : Word) (c j : Nat) (s : State) : Prop extends Pending us dist s where
  triggered : s.rstate = .triggered
  presc : s.presc = 0
  tcount : s.tcount.toNat = j
  wcount : s.wcount = 0
  cycle : s.cycle = c

/-- In cycle c of a measurement past its trigger pulse, w ticks have waited and h of them, the latest, were high (R120 to
R122). -/
structure Waiting (p : Config.Params) (us dist : Word) (c h w : Nat) (s : State) : Prop extends Pending us dist s where
  rstate : s.rstate = if h = 0 then .awaitStart else .awaitEnd
  presc : s.presc = 0
  hcount : h ≠ 0 → s.hcount.toNat = min h (2 ^ 32 - 1)
  wcount : p.echoTimeoutUs = 0 ∨ s.wcount.toNat = w
  cycle : s.cycle = c

/-- A tick of the trigger pulse before its last one. -/
theorem Triggering.tick {c j : Nat} (h : Triggering us dist c j s) (hj : j < 9) (e : Bool) :
    Triggering us dist c (j + 1) (rangeTick p e s) := by
  obtain ⟨heq, hsucc⟩ := tickTriggered_next (s := s) (by rw [h.tcount]; exact hj)
  rw [rangeTick_of_triggered h.triggered, heq]
  exact { h with tcount := by rw [← h.tcount]; exact hsucc }

/-- The last tick of the trigger pulse starts the wait. -/
theorem Triggering.lastTick {c : Nat} (h : Triggering us dist c 9 s) (e : Bool) :
    Waiting p us dist c 0 0 (rangeTick p e s) := by
  rw [rangeTick_of_triggered h.triggered, tickTriggered_last h.tcount]
  exact { h with rstate := rfl, hcount := fun h0 => absurd rfl h0, wcount := .inr (by simp [h.wcount]) }

theorem Triggering.run_tick {c j : Nat} (h : Triggering us dist c j s) :
    ∃ t, RunsWhile p (BusyKeeping us dist) (echoLevel p false) s (rangeTick p false t) ∧
      Triggering us dist (c + p.clkPerUs) j t := by
  obtain ⟨b, q, tr, hrun⟩ := h.run_microsecond (p := p) (by rw [h.triggered]; decide) h.presc false
  refine ⟨_, hrun, ?_⟩
  exact { h.later p.clkPerUs 0 b q tr with
    triggered := h.triggered, presc := rfl, tcount := h.tcount, wcount := h.wcount
    cycle := congrArg (· + p.clkPerUs) h.cycle }

theorem echoLevels_append (es : List Bool) (e : Bool) :
    echoLevels p (es ++ [e]) = echoLevels p es ++ echoLevel p e := by
  simp [echoLevels]

/-- A quiet host for n microseconds. -/
theorem replicate_quiet (n : Nat) :
    List.replicate (n * p.clkPerUs) PortInputs.quiet = echoLevels p (List.replicate n false) := by
  induction n with
  | zero => rw [Nat.zero_mul]; rfl
  | succ n ih =>
    rw [List.replicate_succ', echoLevels_append, ← ih, Nat.succ_mul, ← List.replicate_append_replicate]
    rfl

theorem Triggering.run_ticks {c : Nat} (h : Triggering us dist c 0 s) {n : Nat} (hn : n ≤ 9) :
    ∃ t, RunsWhile p (BusyKeeping us dist) (echoLevels p (List.replicate n false)) s t ∧
      Triggering us dist (c + n * p.clkPerUs) n t := by
  induction n with
  | zero => exact ⟨s, .nil s, by rwa [Nat.zero_mul]⟩
  | succ n ih =>
    obtain ⟨t, hrun, ht⟩ := ih (by omega)
    obtain ⟨u, hrun', hu⟩ := ht.run_tick (p := p)
    rw [List.replicate_succ', echoLevels_append, Nat.succ_mul, ← Nat.add_assoc]
    exact ⟨_, hrun.append hrun', hu.tick (by omega) false⟩

/-- The whole pulse, ten microseconds. -/
theorem Triggering.run {c : Nat} (h : Triggering us dist c 0 s) :
    ∃ t, RunsWhile p (BusyKeeping us dist) (List.replicate (10 * p.clkPerUs) PortInputs.quiet) s t ∧
      Waiting p us dist (c + 10 * p.clkPerUs) 0 0 t := by
  obtain ⟨t, hrun, ht⟩ := h.run_ticks (p := p) (n := 9) le_rfl
  obtain ⟨u, hrun', hu⟩ := ht.run_tick (p := p)
  have hcycle : c + 9 * p.clkPerUs + p.clkPerUs = c + 10 * p.clkPerUs := by omega
  rw [replicate_quiet, show List.replicate 10 false = List.replicate 9 false ++ [false] from rfl, echoLevels_append,
    ← hcycle]
  exact ⟨_, hrun.append hrun', hu.lastTick false⟩

/-! ### The ticks of the wait and of the echo (R120 to R122) -/

/-- A tick of the wait is the timeout step of a state that has counted a high level, and a low one only before the echo. -/
theorem Waiting.tick {c h w : Nat} (hs : Waiting p us dist c h w s) {e : Bool} (he : e = true ∨ h = 0) :
    ∃ t, rangeTick p e s = timeoutStep p t ∧ Waiting p us dist c (if e then h + 1 else h) w t := by
  have hrs := hs.rstate
  cases e with
  | false =>
    have h0 : h = 0 := by simpa using he
    rw [if_pos h0] at hrs
    exact ⟨s, by simp [rangeTick, hrs, tickAwaitStart], hs⟩
  | true =>
    by_cases h0 : h = 0
    · rw [if_pos h0] at hrs
      refine ⟨{ s with hcount := 1, rstate := .awaitEnd }, by simp [rangeTick, hrs, tickAwaitStart], ?_⟩
      exact { hs with rstate := rfl, hcount := fun _ => by simp [h0] }
    · rw [if_neg h0] at hrs
      refine ⟨{ s with hcount := sat32 (s.hcount.toNat + 1) }, by simp [rangeTick, hrs, tickAwaitEnd], ?_⟩
      exact { hs with
        rstate := hrs
        hcount := fun _ => by
          have hh := hs.hcount h0
          change (sat32 (s.hcount.toNat + 1)).toNat = min (h + 1) (2 ^ 32 - 1)
          rw [sat32_toNat, hh]
          omega }

/-- The timeout step short of the timeout, or without one, only counts. -/
theorem Waiting.timeoutStep_counts {c h w : Nat} (hs : Waiting p us dist c h w s)
    (hw : p.echoTimeoutUs = 0 ∨ w + 1 < p.echoTimeoutUs.toNat) :
    Waiting p us dist c h (w + 1) (timeoutStep p s) := by
  have hlt := p.echoTimeoutUs.isLt
  have hcount := hs.wcount
  rcases timeoutStep_cases p s with ⟨h0, ht⟩ | ⟨h0, hle, -⟩ | ⟨h0, -, ht⟩
  · rw [ht]
    exact { hs with wcount := .inl h0 }
  all_goals
    replace hcount : s.wcount.toNat = w := hcount.resolve_left h0
    replace hw : w + 1 < p.echoTimeoutUs.toNat := hw.resolve_left h0
    have hn : (sat32 (s.wcount.toNat + 1)).toNat = w + 1 := by rw [sat32_toNat, hcount]; omega
  · rw [BitVec.le_def, hn] at hle
    omega
  · rw [ht]
    exact { hs with wcount := .inr hn }

/-- The measurement is over in cycle c: the block is idle, with the completion code in LAST_ERR. -/
structure Measured (c : Nat) (code : ErrCode) (s : State) : Prop extends s.Idle where
  lastErr : s.lastErr = code
  cycle : s.cycle = c

/-- The timeout step at the timeout ends the measurement with NO_ECHO and leaves the previous result (R122, R139). -/
theorem Waiting.timeoutStep_ends {c h w : Nat} (hs : Waiting p us dist c h w s) (h0 : p.echoTimeoutUs ≠ 0)
    (hw : w + 1 = p.echoTimeoutUs.toNat) :
    Measured c .noEcho (timeoutStep p s) ∧ (timeoutStep p s).rangeValid = false ∧ (timeoutStep p s).rangeUs = us ∧
      (timeoutStep p s).rangeDist = dist := by
  have hlt := p.echoTimeoutUs.isLt
  have hcount : s.wcount.toNat = w := hs.wcount.resolve_left h0
  have hn : (sat32 (s.wcount.toNat + 1)).toNat = w + 1 := by rw [sat32_toNat, hcount]; omega
  refine ⟨?_, by simpa using hs.noResult, by simpa using hs.rangeUs, by simpa using hs.rangeDist⟩
  rcases timeoutStep_cases p s with ⟨hz, -⟩ | ⟨-, -, ht⟩ | ⟨-, hnot, -⟩
  · exact absurd hz h0
  · rw [ht]
    exact ⟨⟨hs.initDone, rfl, hs.noTxn, rfl⟩, rfl, hs.cycle⟩
  · rw [BitVec.le_def, hn] at hnot
    omega

/-- The first low tick after h high ones ends the measurement with the width h (R121, R125). -/
theorem Waiting.fallingTick {c h w : Nat} (hs : Waiting p us dist c h w s) (hpos : 0 < h) :
    Measured c .ok (rangeTick p false s) ∧ (rangeTick p false s).rangeValid = true ∧
      (rangeTick p false s).rangeUs.toNat = min h (2 ^ 32 - 1) ∧
      (rangeTick p false s).rangeDist.toNat = min (17 * h) (2 ^ 32 - 1) := by
  have hrs := hs.rstate
  rw [if_neg hpos.ne'] at hrs
  have hh := hs.hcount hpos.ne'
  have htick : rangeTick p false s = tickAwaitEnd p false s := by simp [rangeTick, hrs]
  rw [htick, tickAwaitEnd_low]
  refine ⟨⟨⟨hs.initDone, rfl, hs.noTxn, rfl⟩, rfl, hs.cycle⟩, rfl, hh, ?_⟩
  change (rangeDistance s.hcount).toNat = _
  rw [rangeDistance_toNat, hh]
  omega

/-- A microsecond of the wait ends in a tick of the same wait. -/
theorem Waiting.run_tick {c h w : Nat} (hs : Waiting p us dist c h w s) (e : Bool) :
    ∃ t, RunsWhile p (BusyKeeping us dist) (echoLevel p e) s (rangeTick p e t) ∧
      Waiting p us dist (c + p.clkPerUs) h w t := by
  obtain ⟨b, q, tr, hrun⟩ := hs.run_microsecond (p := p) (by rw [hs.rstate]; split <;> decide) hs.presc e
  refine ⟨_, hrun, ?_⟩
  exact { hs.later p.clkPerUs 0 b q tr with
    rstate := hs.rstate, presc := rfl, hcount := hs.hcount, wcount := hs.wcount
    cycle := congrArg (· + p.clkPerUs) hs.cycle }

/-- n microseconds at one level, low only before the echo, short of the timeout. -/
theorem Waiting.run {c h w : Nat} (hs : Waiting p us dist c h w s) {e : Bool} (he : e = true ∨ h = 0) {n : Nat}
    (hw : p.echoTimeoutUs = 0 ∨ w + n < p.echoTimeoutUs.toNat) :
    ∃ t, RunsWhile p (BusyKeeping us dist) (echoLevels p (List.replicate n e)) s t ∧
      Waiting p us dist (c + n * p.clkPerUs) (if e then h + n else h) (w + n) t := by
  induction n with
  | zero => exact ⟨s, .nil s, by simpa using hs⟩
  | succ n ih =>
    obtain ⟨t, hrun, ht⟩ := ih (hw.imp_right (by omega))
    obtain ⟨u, hrun', hu⟩ := ht.run_tick e
    obtain ⟨v, heq, hv⟩ := hu.tick (e := e) (by cases e <;> simp_all)
    rw [List.replicate_succ', echoLevels_append, Nat.succ_mul, ← Nat.add_assoc]
    rw [heq] at hrun'
    refine ⟨_, hrun.append hrun', ?_⟩
    have hcount := hv.timeoutStep_counts (hw.imp_right (by omega))
    cases e <;> exact hcount

/-- The microsecond in which the timeout expires. -/
theorem Waiting.run_timeout {c h w : Nat} (hs : Waiting p us dist c h w s) {e : Bool} (he : e = true ∨ h = 0)
    (h0 : p.echoTimeoutUs ≠ 0) (hw : w + 1 = p.echoTimeoutUs.toNat) :
    ∃ t, RunsWhile p (BusyKeeping us dist) (echoLevel p e) s t ∧ Measured (c + p.clkPerUs) .noEcho t ∧
      t.rangeValid = false ∧ t.rangeUs = us ∧ t.rangeDist = dist := by
  obtain ⟨u, hrun, hu⟩ := hs.run_tick e
  obtain ⟨v, heq, hv⟩ := hu.tick he
  rw [heq] at hrun
  exact ⟨_, hrun, hv.timeoutStep_ends h0 hw⟩

/-! ### The whole measurement (R170) -/

theorem Started.triggering {s t : State} (h : Started s t) :
    Triggering s.rangeUs s.rangeDist (s.cycle + 1) 0 t where
  initDone := h.initDone
  busy := h.busy
  noTxn := h.noTxn
  noResult := h.rangeValid
  rangeUs := h.rangeUs
  rangeDist := h.rangeDist
  triggered := h.triggered
  presc := h.presc
  tcount := by simp [h.tcount]
  wcount := h.wcount
  cycle := h.cycle

/-- From the CMD write of RANGE through l low and h high microseconds, all short of the timeout. -/
theorem run_range {l h : Nat} (hs : s.Idle) (hf : s.initFailed = false)
    (hw : p.echoTimeoutUs = 0 ∨ l + h < p.echoTimeoutUs.toNat) :
    ∃ u t, cycleWith p (cmdWrite 0x40000000) s = .next u ∧
      RunsWhile p (BusyKeeping s.rangeUs s.rangeDist)
        (List.replicate (10 * p.clkPerUs) PortInputs.quiet ++ echoLevels p (List.replicate l false ++ List.replicate h true))
        u t ∧
      Waiting p s.rangeUs s.rangeDist (s.cycle + 1 + (10 + l + h) * p.clkPerUs) h (l + h) t := by
  obtain ⟨u, hu, hstart⟩ := accept_range (p := p) hs hf
  obtain ⟨v, hrun, hv⟩ := hstart.triggering.run (p := p)
  obtain ⟨v', hrun', hv'⟩ := hv.run (e := false) (n := l) (.inr rfl) (hw.imp_right (by omega))
  obtain ⟨t, hrun'', ht⟩ := hv'.run (e := true) (n := h) (.inl rfl) (hw.imp_right (by omega))
  have hlevels : echoLevels p (List.replicate l false ++ List.replicate h true) =
      echoLevels p (List.replicate l false) ++ echoLevels p (List.replicate h true) := List.flatMap_append
  have hcycle : s.cycle + 1 + (10 + l + h) * p.clkPerUs =
      s.cycle + 1 + 10 * p.clkPerUs + l * p.clkPerUs + h * p.clkPerUs := by ring
  rw [hlevels, hcycle]
  exact ⟨u, t, hu, hrun.append (hrun'.append hrun''), by simpa using ht⟩

/-- The same measurement through the microsecond in which its timeout expires. -/
theorem run_range_timeout {l h : Nat} (hs : s.Idle) (hf : s.initFailed = false) (h0 : p.echoTimeoutUs ≠ 0) {e : Bool}
    (he : e = true ∨ h = 0) (hw : l + h + 1 = p.echoTimeoutUs.toNat) :
    ∃ u t, cycleWith p (cmdWrite 0x40000000) s = .next u ∧
      RunsWhile p (BusyKeeping s.rangeUs s.rangeDist)
        (List.replicate (10 * p.clkPerUs) PortInputs.quiet ++
          echoLevels p (List.replicate l false ++ List.replicate h true ++ [e])) u t ∧
      Measured (s.cycle + 1 + (10 + p.echoTimeoutUs.toNat) * p.clkPerUs) .noEcho t ∧
      t.rangeValid = false ∧ t.rangeUs = s.rangeUs ∧ t.rangeDist = s.rangeDist := by
  obtain ⟨u, v, hu, hrun, hv⟩ := run_range (p := p) (l := l) (h := h) hs hf (.inr (by omega))
  obtain ⟨t, hrun', hend⟩ := hv.run_timeout he h0 hw
  have hcycle : s.cycle + 1 + (10 + l + h) * p.clkPerUs + p.clkPerUs =
      s.cycle + 1 + (10 + p.echoTimeoutUs.toNat) * p.clkPerUs := by rw [← hw]; ring
  rw [hcycle] at hend
  rw [echoLevels_append, ← List.append_assoc]
  exact ⟨u, t, hu, hrun.append hrun', hend⟩

end

end Sys2Proof.Machine

namespace Sys2Proof.MeasurementProofs

open Sys2Proof.Machine

/-- Settles O56: the pulse, the wait, the echo, and the tick that finds the echo line low again. -/
theorem rangeMeasuresEchoWidth : Obligations.RangeMeasuresEchoWidth := by
  intro p s l h hs hf hpos hw draws
  obtain ⟨u, v, hu, hrun, hv⟩ := run_range hs hf hw
  obtain ⟨v', hrun', hv'⟩ := hv.run_tick false
  obtain ⟨hend, hvalid, hus, hdist⟩ := hv'.fallingTick hpos
  obtain ⟨hbusy, hall⟩ := (hrun.append hrun').after hu
  rw [List.append_assoc, ← echoLevels_append] at hbusy hall
  refine ⟨hbusy, _, hall, hend.toIdle, ?_, hend.lastErr, hvalid, hus, hdist⟩
  rw [hend.cycle]
  ring

/-- Settles O57: the tick at which the timeout expires is the last one, a low one where there is no high one. -/
theorem rangeTimesOut : Obligations.RangeTimesOut := by
  intro p s l h hs hf h0 hT draws
  obtain ⟨l', h', e, he, hw, hlevels⟩ : ∃ l' h' e, (e = true ∨ h' = 0) ∧ l' + h' + 1 = p.echoTimeoutUs.toNat ∧
      List.replicate l false ++ List.replicate h true = List.replicate l' false ++ List.replicate h' true ++ [e] := by
    cases h with
    | zero =>
      have hT0 : p.echoTimeoutUs.toNat ≠ 0 := fun hz => h0 (BitVec.eq_of_toNat_eq hz)
      obtain ⟨l, rfl⟩ := Nat.exists_eq_succ_of_ne_zero (hT.trans_ne hT0)
      exact ⟨l, 0, false, .inr rfl, hT, by simp [List.replicate_succ']⟩
    | succ h => exact ⟨l, h, true, .inl rfl, hT, by rw [List.replicate_succ', List.append_assoc]⟩
  obtain ⟨u, t, hu, hrun, hend, hvalid, hus, hdist⟩ := run_range_timeout hs hf h0 he hw
  rw [← hlevels] at hrun
  obtain ⟨hbusy, hall⟩ := hrun.after hu
  exact ⟨hbusy, t, hall, hend.cycle, hend.toIdle, hend.lastErr, hvalid, hus, hdist⟩

end Sys2Proof.MeasurementProofs
end

section
/-!
The gamma table (40_led_driver.md R85, R86). An entry L lies within 0.498 of the power 255^((v - 1) / 255) when the 255th
powers of the bounds enclose 255^(v - 1), which is arithmetic of natural numbers. The table is read in its sixteen rows of
sixteen entries.
-/

namespace Sys2Proof.Machine

/-! ### The entries as numbers -/

/-- What holds in every column of every row holds of the 256 indices. -/
theorem forall_index {P : Nat → Prop} (h : ∀ row column : Fin 16, P (16 * row.val + column.val)) {v : Nat} (hv : v < 256) :
    P v := by
  have hindex := h ⟨v / 16, by omega⟩ ⟨v % 16, by omega⟩
  rwa [show 16 * (v / 16) + v % 16 = v by omega] at hindex

/-- L - 0.498 and L + 0.498 enclose 255^((v - 1) / 255): in thousandths, raised to the power 255 and multiplied by 255. -/
def nearPower (L v : Nat) : Bool :=
  1 ≤ L && (1000 * L - 498) ^ 255 * 255 ≤ 255 ^ v * 1000 ^ 255 && 255 ^ v * 1000 ^ 255 ≤ (1000 * L + 498) ^ 255 * 255

/-- R85, entry for entry. -/
theorem lutTable_near {v : Nat} (hv : v < 256) : nearPower (lutTable.getD v 0) v = true :=
  forall_index (P := fun v => nearPower (lutTable.getD v 0) v = true) (by decide) hv

theorem lutTable_lt {v : Nat} (hv : v < 256) : lutTable.getD v 0 < 256 :=
  forall_index (P := fun v => lutTable.getD v 0 < 256) (by decide) hv

theorem lut_toNat (v : Byte) : (lut v).toNat = lutTable.getD v.toNat 0 :=
  Nat.mod_eq_of_lt (lutTable_lt v.isLt)

theorem lut_le_next (v : Fin 255) :
    (lut (BitVec.ofNat 8 v.val)).toNat ≤ (lut (BitVec.ofNat 8 (v.val + 1))).toNat :=
  forall_index (P := fun v => v < 255 → (lut (BitVec.ofNat 8 v)).toNat ≤ (lut (BitVec.ofNat 8 (v + 1))).toNat) (by decide)
    (by omega) v.isLt

theorem lut_ne_zero (v : Fin 256) : lut (BitVec.ofNat 8 v.val) ≠ 0 :=
  forall_index (P := fun v => lut (BitVec.ofNat 8 v) ≠ 0) (by decide) v.isLt

theorem lut_eq_one (v : Fin 256) : v.val ≤ 19 → lut (BitVec.ofNat 8 v.val) = 1 :=
  forall_index (P := fun v => v ≤ 19 → lut (BitVec.ofNat 8 v) = 1) (by decide) v.isLt

theorem lut_eq_two (v : Fin 256) : 20 ≤ v.val → v.val ≤ 43 → lut (BitVec.ofNat 8 v.val) = 2 :=
  forall_index (P := fun v => 20 ≤ v → v ≤ 43 → lut (BitVec.ofNat 8 v) = 2) (by decide) v.isLt

/-- Sixteen rows of sixteen. -/
theorem lutTable_length : lutTable.length = 256 := by
  simp only [lutTable, List.length_append]
  decide

theorem lutTable_dedup_length : lutTable.dedup.length = 124 := by decide +kernel

/-! ### The entries as rounded powers (R85) -/

/-- The power of the formula. -/
noncomputable def gammaPower (v : Nat) : ℝ := (255 : ℝ) ^ (((v : ℝ) - 1) / 255)

theorem gammaPower_nonneg (v : Nat) : 0 ≤ gammaPower v := Real.rpow_nonneg (by norm_num) _

/-- The exponent's denominator goes when the power is raised to it. -/
theorem gammaPower_pow (v : Nat) : gammaPower v ^ 255 * 255 = 255 ^ v := by
  have hexp : ((v : ℝ) - 1) / 255 * (255 : ℕ) + 1 = v := by push_cast; ring
  calc gammaPower v ^ 255 * 255
      = (255 : ℝ) ^ (((v : ℝ) - 1) / 255 * (255 : ℕ)) * (255 : ℝ) ^ (1 : ℝ) := by
        rw [gammaPower, Real.rpow_mul_natCast (by norm_num), Real.rpow_one]
    _ = (255 : ℝ) ^ (v : ℝ) := by rw [← Real.rpow_add (by norm_num), hexp]
    _ = 255 ^ v := Real.rpow_natCast _ _

/-- Comparing 255th powers compares the numbers; `c` stands for their common factor. -/
theorem natCast_le_of_pow {a : Nat} {n N : Nat} {r c : ℝ} (hr : 0 ≤ r) (hc : 0 < c) (hn : n ≠ 0) (hN : r ^ n * c = N) :
    ((a : ℝ) ^ n * c ≤ N → (a : ℝ) ≤ r) ∧ ((N : ℝ) ≤ (a : ℝ) ^ n * c → r ≤ a) := by
  rw [← hN]
  exact ⟨fun h => le_of_pow_le_pow_left₀ hn hr (le_of_mul_le_mul_right h hc),
    fun h => le_of_pow_le_pow_left₀ hn a.cast_nonneg (le_of_mul_le_mul_right h hc)⟩

/-- The comparison of natural numbers carries over to the real power. -/
theorem gammaPower_near {L v : Nat} (h : nearPower L v = true) : |gammaPower v - L| ≤ 498 / 1000 := by
  obtain ⟨⟨hpos, hlo⟩, hhi⟩ : (1 ≤ L ∧ (1000 * L - 498) ^ 255 * 255 ≤ 255 ^ v * 1000 ^ 255) ∧
      255 ^ v * 1000 ^ 255 ≤ (1000 * L + 498) ^ 255 * 255 := by
    simpa only [nearPower, Bool.and_eq_true, decide_eq_true_eq] using h
  have hscaled : (1000 * gammaPower v) ^ 255 * ((255 : ℕ) : ℝ) = ((255 ^ v * 1000 ^ 255 : ℕ) : ℝ) := by
    rw [mul_pow, mul_assoc, Nat.cast_ofNat, gammaPower_pow, mul_comm, Nat.cast_mul, Nat.cast_pow, Nat.cast_pow,
      Nat.cast_ofNat, Nat.cast_ofNat]
  have hbase : 0 ≤ 1000 * gammaPower v := mul_nonneg (by norm_num) (gammaPower_nonneg v)
  have hlow := (natCast_le_of_pow (a := 1000 * L - 498) hbase (by norm_num) (by norm_num) hscaled).1
    (by rw [← Nat.cast_pow, ← Nat.cast_mul]; exact Nat.cast_le.2 hlo)
  have hhigh := (natCast_le_of_pow (a := 1000 * L + 498) hbase (by norm_num) (by norm_num) hscaled).2
    (by rw [← Nat.cast_pow, ← Nat.cast_mul]; exact Nat.cast_le.2 hhi)
  rw [Nat.cast_sub (by omega)] at hlow
  push_cast at hlow hhigh
  rw [abs_le]
  constructor <;> linarith

/-- An integer closer than a half is the rounded value. -/
theorem eq_round_of_near {L : Nat} {r : ℝ} (h : |r - L| ≤ 498 / 1000) : (L : ℤ) = round r := by
  obtain ⟨hlo, hhi⟩ := abs_le.1 h
  rw [eq_comm, round_eq, Int.floor_eq_iff]
  push_cast
  constructor <;> linarith

end Sys2Proof.Machine

namespace Sys2Proof.GammaProofs

open Sys2Proof.Machine

/-- Settles O36: the 255th powers decide how near each entry is, and nearer than a half is rounded. -/
theorem gammaTableIsRoundedPower : Obligations.GammaTableIsRoundedPower := by
  refine ⟨lutTable_length, fun v => ?_⟩
  have hnear := gammaPower_near (lutTable_near v.isLt)
  rw [← lut_toNat] at hnear
  exact ⟨eq_round_of_near hnear, hnear⟩

/-- Settles O37: each property row by row of the table. -/
theorem gammaTableProperties : Obligations.GammaTableProperties :=
  ⟨fun buf c => laneMap_getElem? buf c, lutTable_length, by decide, by decide, by decide, lut_le_next, lut_ne_zero,
    lutTable_dedup_length, lut_eq_one, lut_eq_two⟩

end Sys2Proof.GammaProofs
end

section
/-!
The host of the assembler section (30_encoding.md R82) as a user of the register port: its request is a function of its line, and
a transfer that does not complete holds the line (20_memory.md R48).
-/

namespace Sys2Proof.Machine

/-- The four request levels of a cycle. -/
def requestOf (x : PortInputs) : Bool × Bool × BitVec 6 × Word := (x.hRd, x.hWr, x.hAddr, x.hWdata)

/-- The host's line alone sets the request, never both a read and a write. -/
theorem driveRequest_request (prog : List HostLine) (h : HostState) (x y : PortInputs) :
    requestOf (driveRequest prog h x) = requestOf (driveRequest prog h y) ∧
      requestLegal (driveRequest prog h x) = true := by
  unfold driveRequest
  split <;> exact ⟨rfl, rfl⟩

/-- A host line with a transfer that does not complete stays the host's line. -/
theorem hostAdvance_of_stalled (prog : List HostLine) (h : HostState) (x : PortInputs)
    (hreq : (driveRequest prog h x).hRd = true ∨ (driveRequest prog h x).hWr = true) :
    hostAdvance prog false none h = h := by
  unfold driveRequest at hreq
  unfold hostAdvance
  cases hline : hostLine prog h <;> simp [hline] at hreq ⊢

theorem hostHolds_of_request {x y : PortInputs} (h : requestOf y = requestOf x) (s : State) : hostHolds x y s = true := by
  simp only [requestOf, Prod.mk.injEq] at h
  obtain ⟨hrd, hwr, haddr, hdata⟩ := h
  simp [hostHolds, hrd, hwr, haddr, hdata]

/-- Nothing to hold: the transfer completes, or there is none. -/
theorem hostHolds_of_completed {x : PortInputs} {s : State}
    (h : ¬ ((x.hRd = true ∨ x.hWr = true) ∧ transferCompletes x s = false)) (y : PortInputs) : hostHolds x y s = true := by
  cases hc : transferCompletes x s with
  | true => simp [hostHolds, hc]
  | false =>
    have hnone : (x.hRd || x.hWr) = false := by simpa [hc] using h
    simp [hostHolds, hnone]

end Sys2Proof.Machine

namespace Sys2Proof.HostProofs

open Sys2Proof.Machine

/-- Settles O60: a stalled request leaves the line, and the line is the request. -/
theorem hostProgramHoldsItsRequest : Obligations.HostProgramHoldsItsRequest := by
  intro prog h x y s x' h'
  have hstay : (x'.hRd = true ∨ x'.hWr = true) → transferCompletes x' s = false → h' = h := by
    intro hreq hc
    have hadvance : h' = hostAdvance prog false none h := by
      simp only [h', hc, hRdata_of_stalled hc]
    rw [hadvance]
    exact hostAdvance_of_stalled prog h x hreq
  refine ⟨(driveRequest_request prog h x x).2, ?_, hstay⟩
  by_cases hstall : (x'.hRd = true ∨ x'.hWr = true) ∧ transferCompletes x' s = false
  · obtain ⟨hreq, hc⟩ := hstall
    rw [hstay hreq hc]
    exact hostHolds_of_request (driveRequest_request prog h y x).1 s
  · exact hostHolds_of_completed hstall _

end Sys2Proof.HostProofs
end
